-- ==== Sys2Proof/Word.lean ====
section
/-! DEFINITION. The word types of the E0C88 (R8, R12): bytes, 16-bit words and 24-bit physical addresses. -/

namespace Sys2Proof

/-- A byte: the data bus is 8 bits wide (R8). -/
abbrev Byte := BitVec 8

/-- A 16-bit word: PC, SP, IX, IY, HL, BA and every in-page or logical address (R8, R15). -/
abbrev Word := BitVec 16

/-- A 24-bit physical address, A23 to A00 (R8, R60). -/
abbrev Addr := BitVec 24

end Sys2Proof
end

