-- ==== Sys2Proof/Config.lean ====
section
/-! DEFINITION. What a device fixes around the core (R9) and the values the spec leaves open. The parameters are plain data, so that State can hold them; the free values have no body. -/

namespace Sys2Proof

/-- The four CPU models (R3). -/
inductive CpuModel where
  | model0 | model1 | model2 | model3
deriving DecidableEq, Repr

/-- The operation mode of MODEL2 and MODEL3, the level of the MODE pin (R4). MODEL0 and MODEL1 have none. -/
inductive OpMode where
  | minimum | maximum
deriving DecidableEq, Repr

/-- What stands at a physical address (R9, D8). -/
inductive RegionKind where
  | rom | ram | io | writeOnly | nothing
deriving DecidableEq, Repr

/-- `size` bytes from physical address `base` are of one kind. -/
structure Region where
  base : Nat
  size : Nat
  kind : RegionKind
deriving DecidableEq, Repr

/-- The op-code of an instruction (R102): one byte, or the second byte after CEH or CFH. -/
inductive OpCode where
  | one (b : Byte)
  | ce (b : Byte)
  | cf (b : Byte)
deriving DecidableEq, Repr

/-- The parameters of the device, constant over a run (R9, U11). -/
structure Config where
  /-- MODEL (R3). -/
  model : CpuModel
  /-- MODE (R4): read only on MODEL2 and MODEL3. -/
  mode : OpMode
  /-- SPP0 to SPP7, the stack page (R64). -/
  spp : Byte
  /-- MemoryMap (D8): the first region that contains an address says its kind. -/
  memoryMap : List Region
  /-- HOLDOFF_SET (R661, D22). -/
  holdoffSet : List OpCode
deriving DecidableEq, Repr

/-- The default of HOLDOFF_SET (R661): LD NB,A; LD NB,#bb; LD SC,A; LD SC,#nn; AND, OR, XOR SC,#nn; POP SC; RETE. -/
def Config.defaultHoldoffSet : List OpCode :=
  [.ce 0xCC#8, .ce 0xC4#8, .ce 0xC3#8, .one 0x9F#8, .one 0x9C#8, .one 0x9D#8, .one 0x9E#8,
   .one 0xAF#8, .one 0xF9#8]

/-- One byte access on the bus (R711, R736): the CPU's, or the external bus master's while it owns the bus (R716). A read carries the byte it gave; a read of the bus master that finds no value carries none. -/
inductive BusEvent where
  | read (a : Addr) (v : Byte)
  | write (a : Addr) (v : Byte)
  | masterRead (a : Addr) (v : Option Byte)
  | masterWrite (a : Addr) (v : Byte)
deriving DecidableEq, Repr

/-- FREE VALUE (D8, log 5): the device function of MemoryMap, what a device answers to a read of an I/O address, given every access on the bus before it, newest first. -/
opaque Config.device : List BusEvent → Addr → Byte

/-- FREE VALUE (U5, log 9): the result byte of a decimal operation on operands that are not BCD. -/
opaque Config.nonBcdResult : Nat → Byte

/-- FREE VALUE (U5, log 9): the low digit of the result of an unpacked decimal operation on digits above 9. -/
opaque Config.nonBcdDigit : Nat → BitVec 4

/-- FREE VALUE (U5, log 9): the C flag of a decimal operation on operands that are not BCD. -/
opaque Config.nonBcdCarry : Nat → Bool

/-- FREE VALUE (U5, log 9): the Z flag of a decimal operation on operands that are not BCD. -/
opaque Config.nonBcdZero : Nat → Bool

end Sys2Proof
end

