-- ==== Sys2Proof/Machine/Bits.lean ====
section
/-! DEFINITION. Byte order, sign extension and the few bit-field helpers the rules use (R12, R66, R104), and which units a CPU model has (R3). -/

namespace Sys2Proof

/-- `hi ++ lo` (R12): the 16-bit value with upper byte `hi` and lower byte `lo`. -/
def pair (hi lo : Byte) : Word := hi ++ lo

/-- `w[15:8]` (R12). -/
def hiByte (w : Word) : Byte := w.extractLsb' 8 8

/-- `w[7:0]` (R12). -/
def loByte (w : Word) : Byte := w.extractLsb' 0 8

/-- `sext_16` of a byte (R12). -/
def sext16 (b : Byte) : Word := b.signExtend 16

/-- `b[7:4]`. -/
def hiNibble (b : Byte) : BitVec 4 := b.extractLsb' 4 4

/-- `b[3:0]`. -/
def loNibble (b : Byte) : BitVec 4 := b.extractLsb' 0 4

/-- MLT and DIV exist on MODEL1 and MODEL3 (R3). -/
def CpuModel.hasMulDiv : CpuModel → Bool
  | .model0 => false
  | .model1 => true
  | .model2 => false
  | .model3 => true

/-- NB, CB, EP, XP, YP exist on MODEL2 and MODEL3 (R3, R39). -/
def CpuModel.hasExpansion : CpuModel → Bool
  | .model0 => false
  | .model1 => false
  | .model2 => true
  | .model3 => true

/-- The maximum mode of MODEL2 and MODEL3 (R4): MODEL0 and MODEL1 have no mode. -/
def Config.maxMode (c : Config) : Bool := c.model.hasExpansion && decide (c.mode = .maximum)

end Sys2Proof
end

