-- ==== Sys2Proof/Syntax.lean ====
section
/-! DEFINITION. The instruction set as syntax: one constructor per row of spec/opcode_table.json (R120 to R122, R126), operands as whole bytes or 16-bit words (R104). The instructions with operand bytes come first, each group in the order of the table: Lean compiles no constructor with fields past the 244th. Names: the mnemonic, then the operands; `Imm` an immediate, `M…` a memory operand (`MHl` [HL], `MBr` [BR:ll], `MAbs` [hhll], `MIxDd` [IX+dd], `MIxL` [IX+L], `MSpDd` [SP+dd]), `Vec` the vector operand [kk]. -/

namespace Sys2Proof

/-- The 608 instructions (R124). -/
inductive Instr where
  | addAImm (nn : Byte)  -- ADD A,#nn
  | addAMBr (ll : Byte)  -- ADD A,[BR:ll]
  | addAMAbs (hhll : Word)  -- ADD A,[hhll]
  | adcAImm (nn : Byte)  -- ADC A,#nn
  | adcAMBr (ll : Byte)  -- ADC A,[BR:ll]
  | adcAMAbs (hhll : Word)  -- ADC A,[hhll]
  | subAImm (nn : Byte)  -- SUB A,#nn
  | subAMBr (ll : Byte)  -- SUB A,[BR:ll]
  | subAMAbs (hhll : Word)  -- SUB A,[hhll]
  | sbcAImm (nn : Byte)  -- SBC A,#nn
  | sbcAMBr (ll : Byte)  -- SBC A,[BR:ll]
  | sbcAMAbs (hhll : Word)  -- SBC A,[hhll]
  | andAImm (nn : Byte)  -- AND A,#nn
  | andAMBr (ll : Byte)  -- AND A,[BR:ll]
  | andAMAbs (hhll : Word)  -- AND A,[hhll]
  | orAImm (nn : Byte)  -- OR A,#nn
  | orAMBr (ll : Byte)  -- OR A,[BR:ll]
  | orAMAbs (hhll : Word)  -- OR A,[hhll]
  | cpAImm (nn : Byte)  -- CP A,#nn
  | cpAMBr (ll : Byte)  -- CP A,[BR:ll]
  | cpAMAbs (hhll : Word)  -- CP A,[hhll]
  | xorAImm (nn : Byte)  -- XOR A,#nn
  | xorAMBr (ll : Byte)  -- XOR A,[BR:ll]
  | xorAMAbs (hhll : Word)  -- XOR A,[hhll]
  | ldAMBr (ll : Byte)  -- LD A,[BR:ll]
  | ldBMBr (ll : Byte)  -- LD B,[BR:ll]
  | ldLMBr (ll : Byte)  -- LD L,[BR:ll]
  | ldHMBr (ll : Byte)  -- LD H,[BR:ll]
  | ldMIxMBr (ll : Byte)  -- LD [IX],[BR:ll]
  | ldMHlMBr (ll : Byte)  -- LD [HL],[BR:ll]
  | ldMIyMBr (ll : Byte)  -- LD [IY],[BR:ll]
  | ldMBrA (ll : Byte)  -- LD [BR:ll],A
  | ldMBrB (ll : Byte)  -- LD [BR:ll],B
  | ldMBrL (ll : Byte)  -- LD [BR:ll],L
  | ldMBrH (ll : Byte)  -- LD [BR:ll],H
  | ldMBrMHl (ll : Byte)  -- LD [BR:ll],[HL]
  | ldMBrMIx (ll : Byte)  -- LD [BR:ll],[IX]
  | ldMBrMIy (ll : Byte)  -- LD [BR:ll],[IY]
  | incMBr (ll : Byte)  -- INC [BR:ll]
  | decMBr (ll : Byte)  -- DEC [BR:ll]
  | bitMHlImm (nn : Byte)  -- BIT [HL],#nn
  | bitAImm (nn : Byte)  -- BIT A,#nn
  | bitBImm (nn : Byte)  -- BIT B,#nn
  | andScImm (nn : Byte)  -- AND SC,#nn
  | orScImm (nn : Byte)  -- OR SC,#nn
  | xorScImm (nn : Byte)  -- XOR SC,#nn
  | ldScImm (nn : Byte)  -- LD SC,#nn
  | ldAImm (nn : Byte)  -- LD A,#nn
  | ldBImm (nn : Byte)  -- LD B,#nn
  | ldLImm (nn : Byte)  -- LD L,#nn
  | ldHImm (nn : Byte)  -- LD H,#nn
  | ldBrImm (hh : Byte)  -- LD BR,#hh
  | ldMHlImm (nn : Byte)  -- LD [HL],#nn
  | ldMIxImm (nn : Byte)  -- LD [IX],#nn
  | ldMIyImm (nn : Byte)  -- LD [IY],#nn
  | ldBaMAbs (hhll : Word)  -- LD BA,[hhll]
  | ldHlMAbs (hhll : Word)  -- LD HL,[hhll]
  | ldIxMAbs (hhll : Word)  -- LD IX,[hhll]
  | ldIyMAbs (hhll : Word)  -- LD IY,[hhll]
  | ldMAbsBa (hhll : Word)  -- LD [hhll],BA
  | ldMAbsHl (hhll : Word)  -- LD [hhll],HL
  | ldMAbsIx (hhll : Word)  -- LD [hhll],IX
  | ldMAbsIy (hhll : Word)  -- LD [hhll],IY
  | addBaImm (mmnn : Word)  -- ADD BA,#mmnn
  | addHlImm (mmnn : Word)  -- ADD HL,#mmnn
  | addIxImm (mmnn : Word)  -- ADD IX,#mmnn
  | addIyImm (mmnn : Word)  -- ADD IY,#mmnn
  | ldBaImm (mmnn : Word)  -- LD BA,#mmnn
  | ldHlImm (mmnn : Word)  -- LD HL,#mmnn
  | ldIxImm (mmnn : Word)  -- LD IX,#mmnn
  | ldIyImm (mmnn : Word)  -- LD IY,#mmnn
  | subBaImm (mmnn : Word)  -- SUB BA,#mmnn
  | subHlImm (mmnn : Word)  -- SUB HL,#mmnn
  | subIxImm (mmnn : Word)  -- SUB IX,#mmnn
  | subIyImm (mmnn : Word)  -- SUB IY,#mmnn
  | cpBaImm (mmnn : Word)  -- CP BA,#mmnn
  | cpHlImm (mmnn : Word)  -- CP HL,#mmnn
  | cpIxImm (mmnn : Word)  -- CP IX,#mmnn
  | cpIyImm (mmnn : Word)  -- CP IY,#mmnn
  | andMBrImm (ll : Byte) (nn : Byte)  -- AND [BR:ll],#nn
  | orMBrImm (ll : Byte) (nn : Byte)  -- OR [BR:ll],#nn
  | xorMBrImm (ll : Byte) (nn : Byte)  -- XOR [BR:ll],#nn
  | cpMBrImm (ll : Byte) (nn : Byte)  -- CP [BR:ll],#nn
  | bitMBrImm (ll : Byte) (nn : Byte)  -- BIT [BR:ll],#nn
  | ldMBrImm (ll : Byte) (nn : Byte)  -- LD [BR:ll],#nn
  | carsC (rr : Byte)  -- CARS C,rr
  | carsNc (rr : Byte)  -- CARS NC,rr
  | carsZ (rr : Byte)  -- CARS Z,rr
  | carsNz (rr : Byte)  -- CARS NZ,rr
  | jrsC (rr : Byte)  -- JRS C,rr
  | jrsNc (rr : Byte)  -- JRS NC,rr
  | jrsZ (rr : Byte)  -- JRS Z,rr
  | jrsNz (rr : Byte)  -- JRS NZ,rr
  | carlC (qqrr : Word)  -- CARL C,qqrr
  | carlNc (qqrr : Word)  -- CARL NC,qqrr
  | carlZ (qqrr : Word)  -- CARL Z,qqrr
  | carlNz (qqrr : Word)  -- CARL NZ,qqrr
  | jrlC (qqrr : Word)  -- JRL C,qqrr
  | jrlNc (qqrr : Word)  -- JRL NC,qqrr
  | jrlZ (qqrr : Word)  -- JRL Z,qqrr
  | jrlNz (qqrr : Word)  -- JRL NZ,qqrr
  | cars (rr : Byte)  -- CARS rr
  | jrs (rr : Byte)  -- JRS rr
  | carl (qqrr : Word)  -- CARL qqrr
  | jrl (qqrr : Word)  -- JRL qqrr
  | djrNz (rr : Byte)  -- DJR NZ,rr
  | callMAbs (hhll : Word)  -- CALL [hhll]
  | intVec (kk : Byte)  -- INT [kk]
  | jpVec (kk : Byte)  -- JP [kk]
  | addAMIxDd (dd : Byte)  -- ADD A,[IX+dd]
  | addAMIyDd (dd : Byte)  -- ADD A,[IY+dd]
  | addMHlImm (nn : Byte)  -- ADD [HL],#nn
  | adcAMIxDd (dd : Byte)  -- ADC A,[IX+dd]
  | adcAMIyDd (dd : Byte)  -- ADC A,[IY+dd]
  | adcMHlImm (nn : Byte)  -- ADC [HL],#nn
  | subAMIxDd (dd : Byte)  -- SUB A,[IX+dd]
  | subAMIyDd (dd : Byte)  -- SUB A,[IY+dd]
  | subMHlImm (nn : Byte)  -- SUB [HL],#nn
  | sbcAMIxDd (dd : Byte)  -- SBC A,[IX+dd]
  | sbcAMIyDd (dd : Byte)  -- SBC A,[IY+dd]
  | sbcMHlImm (nn : Byte)  -- SBC [HL],#nn
  | andAMIxDd (dd : Byte)  -- AND A,[IX+dd]
  | andAMIyDd (dd : Byte)  -- AND A,[IY+dd]
  | andMHlImm (nn : Byte)  -- AND [HL],#nn
  | orAMIxDd (dd : Byte)  -- OR A,[IX+dd]
  | orAMIyDd (dd : Byte)  -- OR A,[IY+dd]
  | orMHlImm (nn : Byte)  -- OR [HL],#nn
  | cpAMIxDd (dd : Byte)  -- CP A,[IX+dd]
  | cpAMIyDd (dd : Byte)  -- CP A,[IY+dd]
  | cpMHlImm (nn : Byte)  -- CP [HL],#nn
  | xorAMIxDd (dd : Byte)  -- XOR A,[IX+dd]
  | xorAMIyDd (dd : Byte)  -- XOR A,[IY+dd]
  | xorMHlImm (nn : Byte)  -- XOR [HL],#nn
  | ldAMIxDd (dd : Byte)  -- LD A,[IX+dd]
  | ldAMIyDd (dd : Byte)  -- LD A,[IY+dd]
  | ldMIxDdA (dd : Byte)  -- LD [IX+dd],A
  | ldMIyDdA (dd : Byte)  -- LD [IY+dd],A
  | ldBMIxDd (dd : Byte)  -- LD B,[IX+dd]
  | ldBMIyDd (dd : Byte)  -- LD B,[IY+dd]
  | ldMIxDdB (dd : Byte)  -- LD [IX+dd],B
  | ldMIyDdB (dd : Byte)  -- LD [IY+dd],B
  | ldLMIxDd (dd : Byte)  -- LD L,[IX+dd]
  | ldLMIyDd (dd : Byte)  -- LD L,[IY+dd]
  | ldMIxDdL (dd : Byte)  -- LD [IX+dd],L
  | ldMIyDdL (dd : Byte)  -- LD [IY+dd],L
  | ldHMIxDd (dd : Byte)  -- LD H,[IX+dd]
  | ldHMIyDd (dd : Byte)  -- LD H,[IY+dd]
  | ldMIxDdH (dd : Byte)  -- LD [IX+dd],H
  | ldMIyDdH (dd : Byte)  -- LD [IY+dd],H
  | ldMHlMIxDd (dd : Byte)  -- LD [HL],[IX+dd]
  | ldMHlMIyDd (dd : Byte)  -- LD [HL],[IY+dd]
  | ldMIxMIxDd (dd : Byte)  -- LD [IX],[IX+dd]
  | ldMIxMIyDd (dd : Byte)  -- LD [IX],[IY+dd]
  | ldMIyMIxDd (dd : Byte)  -- LD [IY],[IX+dd]
  | ldMIyMIyDd (dd : Byte)  -- LD [IY],[IY+dd]
  | slaMBr (ll : Byte)  -- SLA [BR:ll]
  | sllMBr (ll : Byte)  -- SLL [BR:ll]
  | sraMBr (ll : Byte)  -- SRA [BR:ll]
  | srlMBr (ll : Byte)  -- SRL [BR:ll]
  | rlMBr (ll : Byte)  -- RL [BR:ll]
  | rlcMBr (ll : Byte)  -- RLC [BR:ll]
  | rrMBr (ll : Byte)  -- RR [BR:ll]
  | rrcMBr (ll : Byte)  -- RRC [BR:ll]
  | cplMBr (ll : Byte)  -- CPL [BR:ll]
  | negMBr (ll : Byte)  -- NEG [BR:ll]
  | andBImm (nn : Byte)  -- AND B,#nn
  | andLImm (nn : Byte)  -- AND L,#nn
  | andHImm (nn : Byte)  -- AND H,#nn
  | orBImm (nn : Byte)  -- OR B,#nn
  | orLImm (nn : Byte)  -- OR L,#nn
  | orHImm (nn : Byte)  -- OR H,#nn
  | xorBImm (nn : Byte)  -- XOR B,#nn
  | xorLImm (nn : Byte)  -- XOR L,#nn
  | xorHImm (nn : Byte)  -- XOR H,#nn
  | cpBImm (nn : Byte)  -- CP B,#nn
  | cpLImm (nn : Byte)  -- CP L,#nn
  | cpHImm (nn : Byte)  -- CP H,#nn
  | cpBrImm (hh : Byte)  -- CP BR,#hh
  | ldNbImm (bb : Byte)  -- LD NB,#bb
  | ldEpImm (pp : Byte)  -- LD EP,#pp
  | ldXpImm (pp : Byte)  -- LD XP,#pp
  | ldYpImm (pp : Byte)  -- LD YP,#pp
  | ldAMAbs (hhll : Word)  -- LD A,[hhll]
  | ldBMAbs (hhll : Word)  -- LD B,[hhll]
  | ldLMAbs (hhll : Word)  -- LD L,[hhll]
  | ldHMAbs (hhll : Word)  -- LD H,[hhll]
  | ldMAbsA (hhll : Word)  -- LD [hhll],A
  | ldMAbsB (hhll : Word)  -- LD [hhll],B
  | ldMAbsL (hhll : Word)  -- LD [hhll],L
  | ldMAbsH (hhll : Word)  -- LD [hhll],H
  | jrsLt (rr : Byte)  -- JRS LT,rr
  | jrsLe (rr : Byte)  -- JRS LE,rr
  | jrsGt (rr : Byte)  -- JRS GT,rr
  | jrsGe (rr : Byte)  -- JRS GE,rr
  | jrsV (rr : Byte)  -- JRS V,rr
  | jrsNv (rr : Byte)  -- JRS NV,rr
  | jrsP (rr : Byte)  -- JRS P,rr
  | jrsM (rr : Byte)  -- JRS M,rr
  | jrsF0 (rr : Byte)  -- JRS F0,rr
  | jrsF1 (rr : Byte)  -- JRS F1,rr
  | jrsF2 (rr : Byte)  -- JRS F2,rr
  | jrsF3 (rr : Byte)  -- JRS F3,rr
  | jrsNf0 (rr : Byte)  -- JRS NF0,rr
  | jrsNf1 (rr : Byte)  -- JRS NF1,rr
  | jrsNf2 (rr : Byte)  -- JRS NF2,rr
  | jrsNf3 (rr : Byte)  -- JRS NF3,rr
  | carsLt (rr : Byte)  -- CARS LT,rr
  | carsLe (rr : Byte)  -- CARS LE,rr
  | carsGt (rr : Byte)  -- CARS GT,rr
  | carsGe (rr : Byte)  -- CARS GE,rr
  | carsV (rr : Byte)  -- CARS V,rr
  | carsNv (rr : Byte)  -- CARS NV,rr
  | carsP (rr : Byte)  -- CARS P,rr
  | carsM (rr : Byte)  -- CARS M,rr
  | carsF0 (rr : Byte)  -- CARS F0,rr
  | carsF1 (rr : Byte)  -- CARS F1,rr
  | carsF2 (rr : Byte)  -- CARS F2,rr
  | carsF3 (rr : Byte)  -- CARS F3,rr
  | carsNf0 (rr : Byte)  -- CARS NF0,rr
  | carsNf1 (rr : Byte)  -- CARS NF1,rr
  | carsNf2 (rr : Byte)  -- CARS NF2,rr
  | carsNf3 (rr : Byte)  -- CARS NF3,rr
  | adcBaImm (mmnn : Word)  -- ADC BA,#mmnn
  | adcHlImm (mmnn : Word)  -- ADC HL,#mmnn
  | sbcBaImm (mmnn : Word)  -- SBC BA,#mmnn
  | sbcHlImm (mmnn : Word)  -- SBC HL,#mmnn
  | addSpImm (mmnn : Word)  -- ADD SP,#mmnn
  | subSpImm (mmnn : Word)  -- SUB SP,#mmnn
  | cpSpImm (mmnn : Word)  -- CP SP,#mmnn
  | ldSpImm (mmnn : Word)  -- LD SP,#mmnn
  | ldBaMSpDd (dd : Byte)  -- LD BA,[SP+dd]
  | ldHlMSpDd (dd : Byte)  -- LD HL,[SP+dd]
  | ldIxMSpDd (dd : Byte)  -- LD IX,[SP+dd]
  | ldIyMSpDd (dd : Byte)  -- LD IY,[SP+dd]
  | ldMSpDdBa (dd : Byte)  -- LD [SP+dd],BA
  | ldMSpDdHl (dd : Byte)  -- LD [SP+dd],HL
  | ldMSpDdIx (dd : Byte)  -- LD [SP+dd],IX
  | ldMSpDdIy (dd : Byte)  -- LD [SP+dd],IY
  | ldSpMAbs (hhll : Word)  -- LD SP,[hhll]
  | ldMAbsSp (hhll : Word)  -- LD [hhll],SP
  | addAA  -- ADD A,A
  | addAB  -- ADD A,B
  | addAMHl  -- ADD A,[HL]
  | addAMIx  -- ADD A,[IX]
  | addAMIy  -- ADD A,[IY]
  | adcAA  -- ADC A,A
  | adcAB  -- ADC A,B
  | adcAMHl  -- ADC A,[HL]
  | adcAMIx  -- ADC A,[IX]
  | adcAMIy  -- ADC A,[IY]
  | subAA  -- SUB A,A
  | subAB  -- SUB A,B
  | subAMHl  -- SUB A,[HL]
  | subAMIx  -- SUB A,[IX]
  | subAMIy  -- SUB A,[IY]
  | sbcAA  -- SBC A,A
  | sbcAB  -- SBC A,B
  | sbcAMHl  -- SBC A,[HL]
  | sbcAMIx  -- SBC A,[IX]
  | sbcAMIy  -- SBC A,[IY]
  | andAA  -- AND A,A
  | andAB  -- AND A,B
  | andAMHl  -- AND A,[HL]
  | andAMIx  -- AND A,[IX]
  | andAMIy  -- AND A,[IY]
  | orAA  -- OR A,A
  | orAB  -- OR A,B
  | orAMHl  -- OR A,[HL]
  | orAMIx  -- OR A,[IX]
  | orAMIy  -- OR A,[IY]
  | cpAA  -- CP A,A
  | cpAB  -- CP A,B
  | cpAMHl  -- CP A,[HL]
  | cpAMIx  -- CP A,[IX]
  | cpAMIy  -- CP A,[IY]
  | xorAA  -- XOR A,A
  | xorAB  -- XOR A,B
  | xorAMHl  -- XOR A,[HL]
  | xorAMIx  -- XOR A,[IX]
  | xorAMIy  -- XOR A,[IY]
  | ldAA  -- LD A,A
  | ldAB  -- LD A,B
  | ldAL  -- LD A,L
  | ldAH  -- LD A,H
  | ldAMHl  -- LD A,[HL]
  | ldAMIx  -- LD A,[IX]
  | ldAMIy  -- LD A,[IY]
  | ldBA  -- LD B,A
  | ldBB  -- LD B,B
  | ldBL  -- LD B,L
  | ldBH  -- LD B,H
  | ldBMHl  -- LD B,[HL]
  | ldBMIx  -- LD B,[IX]
  | ldBMIy  -- LD B,[IY]
  | ldLA  -- LD L,A
  | ldLB  -- LD L,B
  | ldLL  -- LD L,L
  | ldLH  -- LD L,H
  | ldLMHl  -- LD L,[HL]
  | ldLMIx  -- LD L,[IX]
  | ldLMIy  -- LD L,[IY]
  | ldHA  -- LD H,A
  | ldHB  -- LD H,B
  | ldHL  -- LD H,L
  | ldHH  -- LD H,H
  | ldHMHl  -- LD H,[HL]
  | ldHMIx  -- LD H,[IX]
  | ldHMIy  -- LD H,[IY]
  | ldMIxA  -- LD [IX],A
  | ldMIxB  -- LD [IX],B
  | ldMIxL  -- LD [IX],L
  | ldMIxH  -- LD [IX],H
  | ldMIxMHl  -- LD [IX],[HL]
  | ldMIxMIx  -- LD [IX],[IX]
  | ldMIxMIy  -- LD [IX],[IY]
  | ldMHlA  -- LD [HL],A
  | ldMHlB  -- LD [HL],B
  | ldMHlL  -- LD [HL],L
  | ldMHlH  -- LD [HL],H
  | ldMHlMHl  -- LD [HL],[HL]
  | ldMHlMIx  -- LD [HL],[IX]
  | ldMHlMIy  -- LD [HL],[IY]
  | ldMIyA  -- LD [IY],A
  | ldMIyB  -- LD [IY],B
  | ldMIyL  -- LD [IY],L
  | ldMIyH  -- LD [IY],H
  | ldMIyMHl  -- LD [IY],[HL]
  | ldMIyMIx  -- LD [IY],[IX]
  | ldMIyMIy  -- LD [IY],[IY]
  | incA  -- INC A
  | incB  -- INC B
  | incL  -- INC L
  | incH  -- INC H
  | incBr  -- INC BR
  | incMHl  -- INC [HL]
  | incSp  -- INC SP
  | decA  -- DEC A
  | decB  -- DEC B
  | decL  -- DEC L
  | decH  -- DEC H
  | decBr  -- DEC BR
  | decMHl  -- DEC [HL]
  | decSp  -- DEC SP
  | incBa  -- INC BA
  | incHl  -- INC HL
  | incIx  -- INC IX
  | incIy  -- INC IY
  | bitAB  -- BIT A,B
  | decBa  -- DEC BA
  | decHl  -- DEC HL
  | decIx  -- DEC IX
  | decIy  -- DEC IY
  | pushBa  -- PUSH BA
  | pushHl  -- PUSH HL
  | pushIx  -- PUSH IX
  | pushIy  -- PUSH IY
  | pushBr  -- PUSH BR
  | pushEp  -- PUSH EP
  | pushIp  -- PUSH IP
  | pushSc  -- PUSH SC
  | popBa  -- POP BA
  | popHl  -- POP HL
  | popIx  -- POP IX
  | popIy  -- POP IY
  | popBr  -- POP BR
  | popEp  -- POP EP
  | popIp  -- POP IP
  | popSc  -- POP SC
  | exBaHl  -- EX BA,HL
  | exBaIx  -- EX BA,IX
  | exBaIy  -- EX BA,IY
  | exBaSp  -- EX BA,SP
  | exAB  -- EX A,B
  | exAMHl  -- EX A,[HL]
  | pack  -- PACK
  | upck  -- UPCK
  | jpHl  -- JP HL
  | swapA  -- SWAP A
  | swapMHl  -- SWAP [HL]
  | ret  -- RET
  | rete  -- RETE
  | rets  -- RETS
  | nop  -- NOP
  | addAMIxL  -- ADD A,[IX+L]
  | addAMIyL  -- ADD A,[IY+L]
  | addMHlA  -- ADD [HL],A
  | addMHlMIx  -- ADD [HL],[IX]
  | addMHlMIy  -- ADD [HL],[IY]
  | adcAMIxL  -- ADC A,[IX+L]
  | adcAMIyL  -- ADC A,[IY+L]
  | adcMHlA  -- ADC [HL],A
  | adcMHlMIx  -- ADC [HL],[IX]
  | adcMHlMIy  -- ADC [HL],[IY]
  | subAMIxL  -- SUB A,[IX+L]
  | subAMIyL  -- SUB A,[IY+L]
  | subMHlA  -- SUB [HL],A
  | subMHlMIx  -- SUB [HL],[IX]
  | subMHlMIy  -- SUB [HL],[IY]
  | sbcAMIxL  -- SBC A,[IX+L]
  | sbcAMIyL  -- SBC A,[IY+L]
  | sbcMHlA  -- SBC [HL],A
  | sbcMHlMIx  -- SBC [HL],[IX]
  | sbcMHlMIy  -- SBC [HL],[IY]
  | andAMIxL  -- AND A,[IX+L]
  | andAMIyL  -- AND A,[IY+L]
  | andMHlA  -- AND [HL],A
  | andMHlMIx  -- AND [HL],[IX]
  | andMHlMIy  -- AND [HL],[IY]
  | orAMIxL  -- OR A,[IX+L]
  | orAMIyL  -- OR A,[IY+L]
  | orMHlA  -- OR [HL],A
  | orMHlMIx  -- OR [HL],[IX]
  | orMHlMIy  -- OR [HL],[IY]
  | cpAMIxL  -- CP A,[IX+L]
  | cpAMIyL  -- CP A,[IY+L]
  | cpMHlA  -- CP [HL],A
  | cpMHlMIx  -- CP [HL],[IX]
  | cpMHlMIy  -- CP [HL],[IY]
  | xorAMIxL  -- XOR A,[IX+L]
  | xorAMIyL  -- XOR A,[IY+L]
  | xorMHlA  -- XOR [HL],A
  | xorMHlMIx  -- XOR [HL],[IX]
  | xorMHlMIy  -- XOR [HL],[IY]
  | ldAMIxL  -- LD A,[IX+L]
  | ldAMIyL  -- LD A,[IY+L]
  | ldMIxLA  -- LD [IX+L],A
  | ldMIyLA  -- LD [IY+L],A
  | ldBMIxL  -- LD B,[IX+L]
  | ldBMIyL  -- LD B,[IY+L]
  | ldMIxLB  -- LD [IX+L],B
  | ldMIyLB  -- LD [IY+L],B
  | ldLMIxL  -- LD L,[IX+L]
  | ldLMIyL  -- LD L,[IY+L]
  | ldMIxLL  -- LD [IX+L],L
  | ldMIyLL  -- LD [IY+L],L
  | ldHMIxL  -- LD H,[IX+L]
  | ldHMIyL  -- LD H,[IY+L]
  | ldMIxLH  -- LD [IX+L],H
  | ldMIyLH  -- LD [IY+L],H
  | ldMHlMIxL  -- LD [HL],[IX+L]
  | ldMHlMIyL  -- LD [HL],[IY+L]
  | ldMIxMIxL  -- LD [IX],[IX+L]
  | ldMIxMIyL  -- LD [IX],[IY+L]
  | ldMIyMIxL  -- LD [IY],[IX+L]
  | ldMIyMIyL  -- LD [IY],[IY+L]
  | slaA  -- SLA A
  | slaB  -- SLA B
  | slaMHl  -- SLA [HL]
  | sllA  -- SLL A
  | sllB  -- SLL B
  | sllMHl  -- SLL [HL]
  | sraA  -- SRA A
  | sraB  -- SRA B
  | sraMHl  -- SRA [HL]
  | srlA  -- SRL A
  | srlB  -- SRL B
  | srlMHl  -- SRL [HL]
  | rlA  -- RL A
  | rlB  -- RL B
  | rlMHl  -- RL [HL]
  | rlcA  -- RLC A
  | rlcB  -- RLC B
  | rlcMHl  -- RLC [HL]
  | rrA  -- RR A
  | rrB  -- RR B
  | rrMHl  -- RR [HL]
  | rrcA  -- RRC A
  | rrcB  -- RRC B
  | rrcMHl  -- RRC [HL]
  | cplA  -- CPL A
  | cplB  -- CPL B
  | cplMHl  -- CPL [HL]
  | negA  -- NEG A
  | negB  -- NEG B
  | negMHl  -- NEG [HL]
  | sep  -- SEP
  | halt  -- HALT
  | slp  -- SLP
  | ldABr  -- LD A,BR
  | ldASc  -- LD A,SC
  | ldBrA  -- LD BR,A
  | ldScA  -- LD SC,A
  | ldANb  -- LD A,NB
  | ldAEp  -- LD A,EP
  | ldAXp  -- LD A,XP
  | ldAYp  -- LD A,YP
  | ldNbA  -- LD NB,A
  | ldEpA  -- LD EP,A
  | ldXpA  -- LD XP,A
  | ldYpA  -- LD YP,A
  | mlt  -- MLT
  | div  -- DIV
  | addBaBa  -- ADD BA,BA
  | addBaHl  -- ADD BA,HL
  | addBaIx  -- ADD BA,IX
  | addBaIy  -- ADD BA,IY
  | adcBaBa  -- ADC BA,BA
  | adcBaHl  -- ADC BA,HL
  | adcBaIx  -- ADC BA,IX
  | adcBaIy  -- ADC BA,IY
  | subBaBa  -- SUB BA,BA
  | subBaHl  -- SUB BA,HL
  | subBaIx  -- SUB BA,IX
  | subBaIy  -- SUB BA,IY
  | sbcBaBa  -- SBC BA,BA
  | sbcBaHl  -- SBC BA,HL
  | sbcBaIx  -- SBC BA,IX
  | sbcBaIy  -- SBC BA,IY
  | cpBaBa  -- CP BA,BA
  | cpBaHl  -- CP BA,HL
  | cpBaIx  -- CP BA,IX
  | cpBaIy  -- CP BA,IY
  | addHlBa  -- ADD HL,BA
  | addHlHl  -- ADD HL,HL
  | addHlIx  -- ADD HL,IX
  | addHlIy  -- ADD HL,IY
  | adcHlBa  -- ADC HL,BA
  | adcHlHl  -- ADC HL,HL
  | adcHlIx  -- ADC HL,IX
  | adcHlIy  -- ADC HL,IY
  | subHlBa  -- SUB HL,BA
  | subHlHl  -- SUB HL,HL
  | subHlIx  -- SUB HL,IX
  | subHlIy  -- SUB HL,IY
  | sbcHlBa  -- SBC HL,BA
  | sbcHlHl  -- SBC HL,HL
  | sbcHlIx  -- SBC HL,IX
  | sbcHlIy  -- SBC HL,IY
  | cpHlBa  -- CP HL,BA
  | cpHlHl  -- CP HL,HL
  | cpHlIx  -- CP HL,IX
  | cpHlIy  -- CP HL,IY
  | addIxBa  -- ADD IX,BA
  | addIxHl  -- ADD IX,HL
  | addIyBa  -- ADD IY,BA
  | addIyHl  -- ADD IY,HL
  | addSpBa  -- ADD SP,BA
  | addSpHl  -- ADD SP,HL
  | subIxBa  -- SUB IX,BA
  | subIxHl  -- SUB IX,HL
  | subIyBa  -- SUB IY,BA
  | subIyHl  -- SUB IY,HL
  | subSpBa  -- SUB SP,BA
  | subSpHl  -- SUB SP,HL
  | cpSpBa  -- CP SP,BA
  | cpSpHl  -- CP SP,HL
  | pushA  -- PUSH A
  | pushB  -- PUSH B
  | pushL  -- PUSH L
  | pushH  -- PUSH H
  | popA  -- POP A
  | popB  -- POP B
  | popL  -- POP L
  | popH  -- POP H
  | pushAll  -- PUSH ALL
  | pushAle  -- PUSH ALE
  | popAll  -- POP ALL
  | popAle  -- POP ALE
  | ldBaMHl  -- LD BA,[HL]
  | ldHlMHl  -- LD HL,[HL]
  | ldIxMHl  -- LD IX,[HL]
  | ldIyMHl  -- LD IY,[HL]
  | ldMHlBa  -- LD [HL],BA
  | ldMHlHl  -- LD [HL],HL
  | ldMHlIx  -- LD [HL],IX
  | ldMHlIy  -- LD [HL],IY
  | ldBaMIx  -- LD BA,[IX]
  | ldHlMIx  -- LD HL,[IX]
  | ldIxMIx  -- LD IX,[IX]
  | ldIyMIx  -- LD IY,[IX]
  | ldMIxBa  -- LD [IX],BA
  | ldMIxHl  -- LD [IX],HL
  | ldMIxIx  -- LD [IX],IX
  | ldMIxIy  -- LD [IX],IY
  | ldBaMIy  -- LD BA,[IY]
  | ldHlMIy  -- LD HL,[IY]
  | ldIxMIy  -- LD IX,[IY]
  | ldIyMIy  -- LD IY,[IY]
  | ldMIyBa  -- LD [IY],BA
  | ldMIyHl  -- LD [IY],HL
  | ldMIyIx  -- LD [IY],IX
  | ldMIyIy  -- LD [IY],IY
  | ldBaBa  -- LD BA,BA
  | ldBaHl  -- LD BA,HL
  | ldBaIx  -- LD BA,IX
  | ldBaIy  -- LD BA,IY
  | ldHlBa  -- LD HL,BA
  | ldHlHl  -- LD HL,HL
  | ldHlIx  -- LD HL,IX
  | ldHlIy  -- LD HL,IY
  | ldIxBa  -- LD IX,BA
  | ldIxHl  -- LD IX,HL
  | ldIxIx  -- LD IX,IX
  | ldIxIy  -- LD IX,IY
  | ldIyBa  -- LD IY,BA
  | ldIyHl  -- LD IY,HL
  | ldIyIx  -- LD IY,IX
  | ldIyIy  -- LD IY,IY
  | ldSpBa  -- LD SP,BA
  | ldSpHl  -- LD SP,HL
  | ldSpIx  -- LD SP,IX
  | ldSpIy  -- LD SP,IY
  | ldHlSp  -- LD HL,SP
  | ldHlPc  -- LD HL,PC
  | ldBaSp  -- LD BA,SP
  | ldBaPc  -- LD BA,PC
  | ldIxSp  -- LD IX,SP
  | ldIySp  -- LD IY,SP
deriving DecidableEq, Repr

end Sys2Proof
end

