-- ==== Sys2Proof/Decode.lean ====
section
/-! DEFINITION. The decoder, total on any bytes and refusing by name (R100 to R106, R120 to R123), and after it the encoder. The three op-code pages are 16 rows of 16 cells, row the upper and column the lower digit of the op-code byte. -/

namespace Sys2Proof

/-- Why bytes are no instruction (R123), or too few bytes. -/
inductive DecodeError where
  | undefinedFirst (b : Byte)
  | undefinedAfterCE (b : Byte)
  | undefinedAfterCF (b : Byte)
  | truncated
deriving DecidableEq, Repr

/-- A cell of an op-code page: the instruction, waiting for its operand bytes (R102, R104). -/
inductive Cell where
  /-- Not assigned (R123). -/
  | undefined
  /-- No operand byte. -/
  | plain (i : Instr)
  /-- One operand byte. -/
  | byte (f : Byte → Instr)
  /-- A 16-bit operand, low byte first. -/
  | word (f : Word → Instr)
  /-- Two one-byte operands: ll, then nn. -/
  | bytes (f : Byte → Byte → Instr)

/-- The first op-code map (R120); CEH and CFH are the expansion codes and stand here as undefined, the decoder meets them first. Rows 00H to 30H. -/
def pageFirst0 : List (List Cell) :=
  [[.plain .addAA, .plain .addAB, .byte .addAImm, .plain .addAMHl, .byte .addAMBr, .word .addAMAbs,
    .plain .addAMIx, .plain .addAMIy, .plain .adcAA, .plain .adcAB, .byte .adcAImm, .plain .adcAMHl,
    .byte .adcAMBr, .word .adcAMAbs, .plain .adcAMIx, .plain .adcAMIy],
   [.plain .subAA, .plain .subAB, .byte .subAImm, .plain .subAMHl, .byte .subAMBr, .word .subAMAbs,
    .plain .subAMIx, .plain .subAMIy, .plain .sbcAA, .plain .sbcAB, .byte .sbcAImm, .plain .sbcAMHl,
    .byte .sbcAMBr, .word .sbcAMAbs, .plain .sbcAMIx, .plain .sbcAMIy],
   [.plain .andAA, .plain .andAB, .byte .andAImm, .plain .andAMHl, .byte .andAMBr, .word .andAMAbs,
    .plain .andAMIx, .plain .andAMIy, .plain .orAA, .plain .orAB, .byte .orAImm, .plain .orAMHl,
    .byte .orAMBr, .word .orAMAbs, .plain .orAMIx, .plain .orAMIy],
   [.plain .cpAA, .plain .cpAB, .byte .cpAImm, .plain .cpAMHl, .byte .cpAMBr, .word .cpAMAbs, .plain .cpAMIx,
    .plain .cpAMIy, .plain .xorAA, .plain .xorAB, .byte .xorAImm, .plain .xorAMHl, .byte .xorAMBr,
    .word .xorAMAbs, .plain .xorAMIx, .plain .xorAMIy]]

/-- The same map, continued. Rows 40H to 70H. -/
def pageFirst1 : List (List Cell) :=
  [[.plain .ldAA, .plain .ldAB, .plain .ldAL, .plain .ldAH, .byte .ldAMBr, .plain .ldAMHl, .plain .ldAMIx,
    .plain .ldAMIy, .plain .ldBA, .plain .ldBB, .plain .ldBL, .plain .ldBH, .byte .ldBMBr, .plain .ldBMHl,
    .plain .ldBMIx, .plain .ldBMIy],
   [.plain .ldLA, .plain .ldLB, .plain .ldLL, .plain .ldLH, .byte .ldLMBr, .plain .ldLMHl, .plain .ldLMIx,
    .plain .ldLMIy, .plain .ldHA, .plain .ldHB, .plain .ldHL, .plain .ldHH, .byte .ldHMBr, .plain .ldHMHl,
    .plain .ldHMIx, .plain .ldHMIy],
   [.plain .ldMIxA, .plain .ldMIxB, .plain .ldMIxL, .plain .ldMIxH, .byte .ldMIxMBr, .plain .ldMIxMHl,
    .plain .ldMIxMIx, .plain .ldMIxMIy, .plain .ldMHlA, .plain .ldMHlB, .plain .ldMHlL, .plain .ldMHlH,
    .byte .ldMHlMBr, .plain .ldMHlMHl, .plain .ldMHlMIx, .plain .ldMHlMIy],
   [.plain .ldMIyA, .plain .ldMIyB, .plain .ldMIyL, .plain .ldMIyH, .byte .ldMIyMBr, .plain .ldMIyMHl,
    .plain .ldMIyMIx, .plain .ldMIyMIy, .byte .ldMBrA, .byte .ldMBrB, .byte .ldMBrL, .byte .ldMBrH,
    .undefined, .byte .ldMBrMHl, .byte .ldMBrMIx, .byte .ldMBrMIy]]

/-- The same map, continued. Rows 80H to B0H. -/
def pageFirst2 : List (List Cell) :=
  [[.plain .incA, .plain .incB, .plain .incL, .plain .incH, .plain .incBr, .byte .incMBr, .plain .incMHl,
    .plain .incSp, .plain .decA, .plain .decB, .plain .decL, .plain .decH, .plain .decBr, .byte .decMBr,
    .plain .decMHl, .plain .decSp],
   [.plain .incBa, .plain .incHl, .plain .incIx, .plain .incIy, .plain .bitAB, .byte .bitMHlImm,
    .byte .bitAImm, .byte .bitBImm, .plain .decBa, .plain .decHl, .plain .decIx, .plain .decIy,
    .byte .andScImm, .byte .orScImm, .byte .xorScImm, .byte .ldScImm],
   [.plain .pushBa, .plain .pushHl, .plain .pushIx, .plain .pushIy, .plain .pushBr, .plain .pushEp,
    .plain .pushIp, .plain .pushSc, .plain .popBa, .plain .popHl, .plain .popIx, .plain .popIy,
    .plain .popBr, .plain .popEp, .plain .popIp, .plain .popSc],
   [.byte .ldAImm, .byte .ldBImm, .byte .ldLImm, .byte .ldHImm, .byte .ldBrImm, .byte .ldMHlImm,
    .byte .ldMIxImm, .byte .ldMIyImm, .word .ldBaMAbs, .word .ldHlMAbs, .word .ldIxMAbs, .word .ldIyMAbs,
    .word .ldMAbsBa, .word .ldMAbsHl, .word .ldMAbsIx, .word .ldMAbsIy]]

/-- The same map, continued. Rows C0H to F0H. -/
def pageFirst3 : List (List Cell) :=
  [[.word .addBaImm, .word .addHlImm, .word .addIxImm, .word .addIyImm, .word .ldBaImm, .word .ldHlImm,
    .word .ldIxImm, .word .ldIyImm, .plain .exBaHl, .plain .exBaIx, .plain .exBaIy, .plain .exBaSp,
    .plain .exAB, .plain .exAMHl, .undefined, .undefined],
   [.word .subBaImm, .word .subHlImm, .word .subIxImm, .word .subIyImm, .word .cpBaImm, .word .cpHlImm,
    .word .cpIxImm, .word .cpIyImm, .bytes .andMBrImm, .bytes .orMBrImm, .bytes .xorMBrImm, .bytes .cpMBrImm,
    .bytes .bitMBrImm, .bytes .ldMBrImm, .plain .pack, .plain .upck],
   [.byte .carsC, .byte .carsNc, .byte .carsZ, .byte .carsNz, .byte .jrsC, .byte .jrsNc, .byte .jrsZ,
    .byte .jrsNz, .word .carlC, .word .carlNc, .word .carlZ, .word .carlNz, .word .jrlC, .word .jrlNc,
    .word .jrlZ, .word .jrlNz],
   [.byte .cars, .byte .jrs, .word .carl, .word .jrl, .plain .jpHl, .byte .djrNz, .plain .swapA,
    .plain .swapMHl, .plain .ret, .plain .rete, .plain .rets, .word .callMAbs, .byte .intVec, .byte .jpVec,
    .undefined, .plain .nop]]

/-- The whole page. -/
def pageFirst : List (List Cell) := pageFirst0 ++ pageFirst1 ++ pageFirst2 ++ pageFirst3

/-- The second op-code map after CEH (R121). Rows 00H to 30H. -/
def pageCE0 : List (List Cell) :=
  [[.byte .addAMIxDd, .byte .addAMIyDd, .plain .addAMIxL, .plain .addAMIyL, .plain .addMHlA,
    .byte .addMHlImm, .plain .addMHlMIx, .plain .addMHlMIy, .byte .adcAMIxDd, .byte .adcAMIyDd,
    .plain .adcAMIxL, .plain .adcAMIyL, .plain .adcMHlA, .byte .adcMHlImm, .plain .adcMHlMIx,
    .plain .adcMHlMIy],
   [.byte .subAMIxDd, .byte .subAMIyDd, .plain .subAMIxL, .plain .subAMIyL, .plain .subMHlA,
    .byte .subMHlImm, .plain .subMHlMIx, .plain .subMHlMIy, .byte .sbcAMIxDd, .byte .sbcAMIyDd,
    .plain .sbcAMIxL, .plain .sbcAMIyL, .plain .sbcMHlA, .byte .sbcMHlImm, .plain .sbcMHlMIx,
    .plain .sbcMHlMIy],
   [.byte .andAMIxDd, .byte .andAMIyDd, .plain .andAMIxL, .plain .andAMIyL, .plain .andMHlA,
    .byte .andMHlImm, .plain .andMHlMIx, .plain .andMHlMIy, .byte .orAMIxDd, .byte .orAMIyDd,
    .plain .orAMIxL, .plain .orAMIyL, .plain .orMHlA, .byte .orMHlImm, .plain .orMHlMIx, .plain .orMHlMIy],
   [.byte .cpAMIxDd, .byte .cpAMIyDd, .plain .cpAMIxL, .plain .cpAMIyL, .plain .cpMHlA, .byte .cpMHlImm,
    .plain .cpMHlMIx, .plain .cpMHlMIy, .byte .xorAMIxDd, .byte .xorAMIyDd, .plain .xorAMIxL,
    .plain .xorAMIyL, .plain .xorMHlA, .byte .xorMHlImm, .plain .xorMHlMIx, .plain .xorMHlMIy]]

/-- The same map, continued. Rows 40H to 70H. -/
def pageCE1 : List (List Cell) :=
  [[.byte .ldAMIxDd, .byte .ldAMIyDd, .plain .ldAMIxL, .plain .ldAMIyL, .byte .ldMIxDdA, .byte .ldMIyDdA,
    .plain .ldMIxLA, .plain .ldMIyLA, .byte .ldBMIxDd, .byte .ldBMIyDd, .plain .ldBMIxL, .plain .ldBMIyL,
    .byte .ldMIxDdB, .byte .ldMIyDdB, .plain .ldMIxLB, .plain .ldMIyLB],
   [.byte .ldLMIxDd, .byte .ldLMIyDd, .plain .ldLMIxL, .plain .ldLMIyL, .byte .ldMIxDdL, .byte .ldMIyDdL,
    .plain .ldMIxLL, .plain .ldMIyLL, .byte .ldHMIxDd, .byte .ldHMIyDd, .plain .ldHMIxL, .plain .ldHMIyL,
    .byte .ldMIxDdH, .byte .ldMIyDdH, .plain .ldMIxLH, .plain .ldMIyLH],
   [.byte .ldMHlMIxDd, .byte .ldMHlMIyDd, .plain .ldMHlMIxL, .plain .ldMHlMIyL, .undefined, .undefined,
    .undefined, .undefined, .byte .ldMIxMIxDd, .byte .ldMIxMIyDd, .plain .ldMIxMIxL, .plain .ldMIxMIyL,
    .undefined, .undefined, .undefined, .undefined],
   [.undefined, .undefined, .undefined, .undefined, .undefined, .undefined, .undefined, .undefined,
    .byte .ldMIyMIxDd, .byte .ldMIyMIyDd, .plain .ldMIyMIxL, .plain .ldMIyMIyL, .undefined, .undefined,
    .undefined, .undefined]]

/-- The same map, continued. Rows 80H to B0H. -/
def pageCE2 : List (List Cell) :=
  [[.plain .slaA, .plain .slaB, .byte .slaMBr, .plain .slaMHl, .plain .sllA, .plain .sllB, .byte .sllMBr,
    .plain .sllMHl, .plain .sraA, .plain .sraB, .byte .sraMBr, .plain .sraMHl, .plain .srlA, .plain .srlB,
    .byte .srlMBr, .plain .srlMHl],
   [.plain .rlA, .plain .rlB, .byte .rlMBr, .plain .rlMHl, .plain .rlcA, .plain .rlcB, .byte .rlcMBr,
    .plain .rlcMHl, .plain .rrA, .plain .rrB, .byte .rrMBr, .plain .rrMHl, .plain .rrcA, .plain .rrcB,
    .byte .rrcMBr, .plain .rrcMHl],
   [.plain .cplA, .plain .cplB, .byte .cplMBr, .plain .cplMHl, .plain .negA, .plain .negB, .byte .negMBr,
    .plain .negMHl, .plain .sep, .undefined, .undefined, .undefined, .undefined, .undefined, .plain .halt,
    .plain .slp],
   [.byte .andBImm, .byte .andLImm, .byte .andHImm, .undefined, .byte .orBImm, .byte .orLImm, .byte .orHImm,
    .undefined, .byte .xorBImm, .byte .xorLImm, .byte .xorHImm, .undefined, .byte .cpBImm, .byte .cpLImm,
    .byte .cpHImm, .byte .cpBrImm]]

/-- The same map, continued. Rows C0H to F0H. -/
def pageCE3 : List (List Cell) :=
  [[.plain .ldABr, .plain .ldASc, .plain .ldBrA, .plain .ldScA, .byte .ldNbImm, .byte .ldEpImm,
    .byte .ldXpImm, .byte .ldYpImm, .plain .ldANb, .plain .ldAEp, .plain .ldAXp, .plain .ldAYp,
    .plain .ldNbA, .plain .ldEpA, .plain .ldXpA, .plain .ldYpA],
   [.word .ldAMAbs, .word .ldBMAbs, .word .ldLMAbs, .word .ldHMAbs, .word .ldMAbsA, .word .ldMAbsB,
    .word .ldMAbsL, .word .ldMAbsH, .plain .mlt, .plain .div, .undefined, .undefined, .undefined, .undefined,
    .undefined, .undefined],
   [.byte .jrsLt, .byte .jrsLe, .byte .jrsGt, .byte .jrsGe, .byte .jrsV, .byte .jrsNv, .byte .jrsP,
    .byte .jrsM, .byte .jrsF0, .byte .jrsF1, .byte .jrsF2, .byte .jrsF3, .byte .jrsNf0, .byte .jrsNf1,
    .byte .jrsNf2, .byte .jrsNf3],
   [.byte .carsLt, .byte .carsLe, .byte .carsGt, .byte .carsGe, .byte .carsV, .byte .carsNv, .byte .carsP,
    .byte .carsM, .byte .carsF0, .byte .carsF1, .byte .carsF2, .byte .carsF3, .byte .carsNf0, .byte .carsNf1,
    .byte .carsNf2, .byte .carsNf3]]

/-- The whole page. -/
def pageCE : List (List Cell) := pageCE0 ++ pageCE1 ++ pageCE2 ++ pageCE3

/-- The second op-code map after CFH (R122). Rows 00H to 30H. -/
def pageCF0 : List (List Cell) :=
  [[.plain .addBaBa, .plain .addBaHl, .plain .addBaIx, .plain .addBaIy, .plain .adcBaBa, .plain .adcBaHl,
    .plain .adcBaIx, .plain .adcBaIy, .plain .subBaBa, .plain .subBaHl, .plain .subBaIx, .plain .subBaIy,
    .plain .sbcBaBa, .plain .sbcBaHl, .plain .sbcBaIx, .plain .sbcBaIy],
   [.undefined, .undefined, .undefined, .undefined, .undefined, .undefined, .undefined, .undefined,
    .plain .cpBaBa, .plain .cpBaHl, .plain .cpBaIx, .plain .cpBaIy, .undefined, .undefined, .undefined,
    .undefined],
   [.plain .addHlBa, .plain .addHlHl, .plain .addHlIx, .plain .addHlIy, .plain .adcHlBa, .plain .adcHlHl,
    .plain .adcHlIx, .plain .adcHlIy, .plain .subHlBa, .plain .subHlHl, .plain .subHlIx, .plain .subHlIy,
    .plain .sbcHlBa, .plain .sbcHlHl, .plain .sbcHlIx, .plain .sbcHlIy],
   [.undefined, .undefined, .undefined, .undefined, .undefined, .undefined, .undefined, .undefined,
    .plain .cpHlBa, .plain .cpHlHl, .plain .cpHlIx, .plain .cpHlIy, .undefined, .undefined, .undefined,
    .undefined]]

/-- The same map, continued. Rows 40H to 70H. -/
def pageCF1 : List (List Cell) :=
  [[.plain .addIxBa, .plain .addIxHl, .plain .addIyBa, .plain .addIyHl, .plain .addSpBa, .plain .addSpHl,
    .undefined, .undefined, .plain .subIxBa, .plain .subIxHl, .plain .subIyBa, .plain .subIyHl,
    .plain .subSpBa, .plain .subSpHl, .undefined, .undefined],
   [.undefined, .undefined, .undefined, .undefined, .undefined, .undefined, .undefined, .undefined,
    .undefined, .undefined, .undefined, .undefined, .plain .cpSpBa, .plain .cpSpHl, .undefined, .undefined],
   [.word .adcBaImm, .word .adcHlImm, .word .sbcBaImm, .word .sbcHlImm, .undefined, .undefined, .undefined,
    .undefined, .word .addSpImm, .undefined, .word .subSpImm, .undefined, .word .cpSpImm, .undefined,
    .word .ldSpImm, .undefined],
   [.byte .ldBaMSpDd, .byte .ldHlMSpDd, .byte .ldIxMSpDd, .byte .ldIyMSpDd, .byte .ldMSpDdBa,
    .byte .ldMSpDdHl, .byte .ldMSpDdIx, .byte .ldMSpDdIy, .word .ldSpMAbs, .undefined, .undefined,
    .undefined, .word .ldMAbsSp, .undefined, .undefined, .undefined]]

/-- The same map, continued. Rows 80H to B0H. -/
def pageCF2 : List (List Cell) :=
  [List.replicate 16 .undefined,
   List.replicate 16 .undefined,
   List.replicate 16 .undefined,
   [.plain .pushA, .plain .pushB, .plain .pushL, .plain .pushH, .plain .popA, .plain .popB, .plain .popL,
    .plain .popH, .plain .pushAll, .plain .pushAle, .undefined, .undefined, .plain .popAll, .plain .popAle,
    .undefined, .undefined]]

/-- The same map, continued. Rows C0H to F0H. -/
def pageCF3 : List (List Cell) :=
  [[.plain .ldBaMHl, .plain .ldHlMHl, .plain .ldIxMHl, .plain .ldIyMHl, .plain .ldMHlBa, .plain .ldMHlHl,
    .plain .ldMHlIx, .plain .ldMHlIy, .undefined, .undefined, .undefined, .undefined, .undefined, .undefined,
    .undefined, .undefined],
   [.plain .ldBaMIx, .plain .ldHlMIx, .plain .ldIxMIx, .plain .ldIyMIx, .plain .ldMIxBa, .plain .ldMIxHl,
    .plain .ldMIxIx, .plain .ldMIxIy, .plain .ldBaMIy, .plain .ldHlMIy, .plain .ldIxMIy, .plain .ldIyMIy,
    .plain .ldMIyBa, .plain .ldMIyHl, .plain .ldMIyIx, .plain .ldMIyIy],
   [.plain .ldBaBa, .plain .ldBaHl, .plain .ldBaIx, .plain .ldBaIy, .plain .ldHlBa, .plain .ldHlHl,
    .plain .ldHlIx, .plain .ldHlIy, .plain .ldIxBa, .plain .ldIxHl, .plain .ldIxIx, .plain .ldIxIy,
    .plain .ldIyBa, .plain .ldIyHl, .plain .ldIyIx, .plain .ldIyIy],
   [.plain .ldSpBa, .plain .ldSpHl, .plain .ldSpIx, .plain .ldSpIy, .plain .ldHlSp, .plain .ldHlPc,
    .undefined, .undefined, .plain .ldBaSp, .plain .ldBaPc, .plain .ldIxSp, .undefined, .undefined,
    .undefined, .plain .ldIySp, .undefined]]

/-- The whole page. -/
def pageCF : List (List Cell) := pageCF0 ++ pageCF1 ++ pageCF2 ++ pageCF3

/-- The cell of an op-code byte: row `b[7:4]`, column `b[3:0]`. -/
def cellAt (page : List (List Cell)) (b : Byte) : Cell :=
  (page.getD (b.toNat / 16) []).getD (b.toNat % 16) .undefined

/-- Take a cell's operand bytes from the bytes that follow the op-code (R104). -/
def Cell.operands : Cell → DecodeError → List Byte → Except DecodeError (Instr × List Byte)
  | .undefined, e, _ => .error e
  | .plain i, _, rest => .ok (i, rest)
  | .byte f, _, o1 :: rest => .ok (f o1, rest)
  | .word f, _, o1 :: o2 :: rest => .ok (f (pair o2 o1), rest)
  | .bytes f, _, o1 :: o2 :: rest => .ok (f o1 o2, rest)
  | .byte _, _, [] => .error .truncated
  | .word _, _, [] => .error .truncated
  | .word _, _, [_] => .error .truncated
  | .bytes _, _, [] => .error .truncated
  | .bytes _, _, [_] => .error .truncated

/-- The second op-code after an expansion code (R101). -/
def secondOpcode (page : List (List Cell)) (err : Byte → DecodeError) :
    List Byte → Except DecodeError (Instr × List Byte)
  | [] => .error .truncated
  | b :: rest => (cellAt page b).operands (err b) rest

/-- Decode one instruction from the front of the bytes, with what is left (R100, R106). -/
def decode : List Byte → Except DecodeError (Instr × List Byte)
  | [] => .error .truncated
  | b :: rest =>
    if b = 0xCE#8 then secondOpcode pageCE .undefinedAfterCE rest
    else if b = 0xCF#8 then secondOpcode pageCF .undefinedAfterCF rest
    else (cellAt pageFirst b).operands (.undefinedFirst b) rest

/-- `n` bytes of an instruction whose bits are `w`, numbered as the op-code table numbers them: byte k is bits 8k+7 to 8k. -/
def tableBytes : Nat → Nat → List Byte
  | 0, _ => []
  | n + 1, w => BitVec.ofNat 8 w :: tableBytes n (w / 256)

/-- The instruction the decoder reads from the table's bits `w`; the bits from `nbits` up are 0, the longest instruction has four bytes (R100). -/
def decodeTableWord (nbits w : Nat) : Option Instr :=
  match decode (tableBytes 4 (w % 2 ^ nbits)) with
  | .ok (i, _) => some i
  | .error _ => none

/-- The bytes of an instruction (R102, R104, R120 to R122). -/
def encode : Instr → List Byte
  | .addAA => [0x00#8]
  | .addAB => [0x01#8]
  | .addAImm nn => [0x02#8, nn]
  | .addAMHl => [0x03#8]
  | .addAMBr ll => [0x04#8, ll]
  | .addAMAbs hhll => [0x05#8, loByte hhll, hiByte hhll]
  | .addAMIx => [0x06#8]
  | .addAMIy => [0x07#8]
  | .adcAA => [0x08#8]
  | .adcAB => [0x09#8]
  | .adcAImm nn => [0x0A#8, nn]
  | .adcAMHl => [0x0B#8]
  | .adcAMBr ll => [0x0C#8, ll]
  | .adcAMAbs hhll => [0x0D#8, loByte hhll, hiByte hhll]
  | .adcAMIx => [0x0E#8]
  | .adcAMIy => [0x0F#8]
  | .subAA => [0x10#8]
  | .subAB => [0x11#8]
  | .subAImm nn => [0x12#8, nn]
  | .subAMHl => [0x13#8]
  | .subAMBr ll => [0x14#8, ll]
  | .subAMAbs hhll => [0x15#8, loByte hhll, hiByte hhll]
  | .subAMIx => [0x16#8]
  | .subAMIy => [0x17#8]
  | .sbcAA => [0x18#8]
  | .sbcAB => [0x19#8]
  | .sbcAImm nn => [0x1A#8, nn]
  | .sbcAMHl => [0x1B#8]
  | .sbcAMBr ll => [0x1C#8, ll]
  | .sbcAMAbs hhll => [0x1D#8, loByte hhll, hiByte hhll]
  | .sbcAMIx => [0x1E#8]
  | .sbcAMIy => [0x1F#8]
  | .andAA => [0x20#8]
  | .andAB => [0x21#8]
  | .andAImm nn => [0x22#8, nn]
  | .andAMHl => [0x23#8]
  | .andAMBr ll => [0x24#8, ll]
  | .andAMAbs hhll => [0x25#8, loByte hhll, hiByte hhll]
  | .andAMIx => [0x26#8]
  | .andAMIy => [0x27#8]
  | .orAA => [0x28#8]
  | .orAB => [0x29#8]
  | .orAImm nn => [0x2A#8, nn]
  | .orAMHl => [0x2B#8]
  | .orAMBr ll => [0x2C#8, ll]
  | .orAMAbs hhll => [0x2D#8, loByte hhll, hiByte hhll]
  | .orAMIx => [0x2E#8]
  | .orAMIy => [0x2F#8]
  | .cpAA => [0x30#8]
  | .cpAB => [0x31#8]
  | .cpAImm nn => [0x32#8, nn]
  | .cpAMHl => [0x33#8]
  | .cpAMBr ll => [0x34#8, ll]
  | .cpAMAbs hhll => [0x35#8, loByte hhll, hiByte hhll]
  | .cpAMIx => [0x36#8]
  | .cpAMIy => [0x37#8]
  | .xorAA => [0x38#8]
  | .xorAB => [0x39#8]
  | .xorAImm nn => [0x3A#8, nn]
  | .xorAMHl => [0x3B#8]
  | .xorAMBr ll => [0x3C#8, ll]
  | .xorAMAbs hhll => [0x3D#8, loByte hhll, hiByte hhll]
  | .xorAMIx => [0x3E#8]
  | .xorAMIy => [0x3F#8]
  | .ldAA => [0x40#8]
  | .ldAB => [0x41#8]
  | .ldAL => [0x42#8]
  | .ldAH => [0x43#8]
  | .ldAMBr ll => [0x44#8, ll]
  | .ldAMHl => [0x45#8]
  | .ldAMIx => [0x46#8]
  | .ldAMIy => [0x47#8]
  | .ldBA => [0x48#8]
  | .ldBB => [0x49#8]
  | .ldBL => [0x4A#8]
  | .ldBH => [0x4B#8]
  | .ldBMBr ll => [0x4C#8, ll]
  | .ldBMHl => [0x4D#8]
  | .ldBMIx => [0x4E#8]
  | .ldBMIy => [0x4F#8]
  | .ldLA => [0x50#8]
  | .ldLB => [0x51#8]
  | .ldLL => [0x52#8]
  | .ldLH => [0x53#8]
  | .ldLMBr ll => [0x54#8, ll]
  | .ldLMHl => [0x55#8]
  | .ldLMIx => [0x56#8]
  | .ldLMIy => [0x57#8]
  | .ldHA => [0x58#8]
  | .ldHB => [0x59#8]
  | .ldHL => [0x5A#8]
  | .ldHH => [0x5B#8]
  | .ldHMBr ll => [0x5C#8, ll]
  | .ldHMHl => [0x5D#8]
  | .ldHMIx => [0x5E#8]
  | .ldHMIy => [0x5F#8]
  | .ldMIxA => [0x60#8]
  | .ldMIxB => [0x61#8]
  | .ldMIxL => [0x62#8]
  | .ldMIxH => [0x63#8]
  | .ldMIxMBr ll => [0x64#8, ll]
  | .ldMIxMHl => [0x65#8]
  | .ldMIxMIx => [0x66#8]
  | .ldMIxMIy => [0x67#8]
  | .ldMHlA => [0x68#8]
  | .ldMHlB => [0x69#8]
  | .ldMHlL => [0x6A#8]
  | .ldMHlH => [0x6B#8]
  | .ldMHlMBr ll => [0x6C#8, ll]
  | .ldMHlMHl => [0x6D#8]
  | .ldMHlMIx => [0x6E#8]
  | .ldMHlMIy => [0x6F#8]
  | .ldMIyA => [0x70#8]
  | .ldMIyB => [0x71#8]
  | .ldMIyL => [0x72#8]
  | .ldMIyH => [0x73#8]
  | .ldMIyMBr ll => [0x74#8, ll]
  | .ldMIyMHl => [0x75#8]
  | .ldMIyMIx => [0x76#8]
  | .ldMIyMIy => [0x77#8]
  | .ldMBrA ll => [0x78#8, ll]
  | .ldMBrB ll => [0x79#8, ll]
  | .ldMBrL ll => [0x7A#8, ll]
  | .ldMBrH ll => [0x7B#8, ll]
  | .ldMBrMHl ll => [0x7D#8, ll]
  | .ldMBrMIx ll => [0x7E#8, ll]
  | .ldMBrMIy ll => [0x7F#8, ll]
  | .incA => [0x80#8]
  | .incB => [0x81#8]
  | .incL => [0x82#8]
  | .incH => [0x83#8]
  | .incBr => [0x84#8]
  | .incMBr ll => [0x85#8, ll]
  | .incMHl => [0x86#8]
  | .incSp => [0x87#8]
  | .decA => [0x88#8]
  | .decB => [0x89#8]
  | .decL => [0x8A#8]
  | .decH => [0x8B#8]
  | .decBr => [0x8C#8]
  | .decMBr ll => [0x8D#8, ll]
  | .decMHl => [0x8E#8]
  | .decSp => [0x8F#8]
  | .incBa => [0x90#8]
  | .incHl => [0x91#8]
  | .incIx => [0x92#8]
  | .incIy => [0x93#8]
  | .bitAB => [0x94#8]
  | .bitMHlImm nn => [0x95#8, nn]
  | .bitAImm nn => [0x96#8, nn]
  | .bitBImm nn => [0x97#8, nn]
  | .decBa => [0x98#8]
  | .decHl => [0x99#8]
  | .decIx => [0x9A#8]
  | .decIy => [0x9B#8]
  | .andScImm nn => [0x9C#8, nn]
  | .orScImm nn => [0x9D#8, nn]
  | .xorScImm nn => [0x9E#8, nn]
  | .ldScImm nn => [0x9F#8, nn]
  | .pushBa => [0xA0#8]
  | .pushHl => [0xA1#8]
  | .pushIx => [0xA2#8]
  | .pushIy => [0xA3#8]
  | .pushBr => [0xA4#8]
  | .pushEp => [0xA5#8]
  | .pushIp => [0xA6#8]
  | .pushSc => [0xA7#8]
  | .popBa => [0xA8#8]
  | .popHl => [0xA9#8]
  | .popIx => [0xAA#8]
  | .popIy => [0xAB#8]
  | .popBr => [0xAC#8]
  | .popEp => [0xAD#8]
  | .popIp => [0xAE#8]
  | .popSc => [0xAF#8]
  | .ldAImm nn => [0xB0#8, nn]
  | .ldBImm nn => [0xB1#8, nn]
  | .ldLImm nn => [0xB2#8, nn]
  | .ldHImm nn => [0xB3#8, nn]
  | .ldBrImm hh => [0xB4#8, hh]
  | .ldMHlImm nn => [0xB5#8, nn]
  | .ldMIxImm nn => [0xB6#8, nn]
  | .ldMIyImm nn => [0xB7#8, nn]
  | .ldBaMAbs hhll => [0xB8#8, loByte hhll, hiByte hhll]
  | .ldHlMAbs hhll => [0xB9#8, loByte hhll, hiByte hhll]
  | .ldIxMAbs hhll => [0xBA#8, loByte hhll, hiByte hhll]
  | .ldIyMAbs hhll => [0xBB#8, loByte hhll, hiByte hhll]
  | .ldMAbsBa hhll => [0xBC#8, loByte hhll, hiByte hhll]
  | .ldMAbsHl hhll => [0xBD#8, loByte hhll, hiByte hhll]
  | .ldMAbsIx hhll => [0xBE#8, loByte hhll, hiByte hhll]
  | .ldMAbsIy hhll => [0xBF#8, loByte hhll, hiByte hhll]
  | .addBaImm mmnn => [0xC0#8, loByte mmnn, hiByte mmnn]
  | .addHlImm mmnn => [0xC1#8, loByte mmnn, hiByte mmnn]
  | .addIxImm mmnn => [0xC2#8, loByte mmnn, hiByte mmnn]
  | .addIyImm mmnn => [0xC3#8, loByte mmnn, hiByte mmnn]
  | .ldBaImm mmnn => [0xC4#8, loByte mmnn, hiByte mmnn]
  | .ldHlImm mmnn => [0xC5#8, loByte mmnn, hiByte mmnn]
  | .ldIxImm mmnn => [0xC6#8, loByte mmnn, hiByte mmnn]
  | .ldIyImm mmnn => [0xC7#8, loByte mmnn, hiByte mmnn]
  | .exBaHl => [0xC8#8]
  | .exBaIx => [0xC9#8]
  | .exBaIy => [0xCA#8]
  | .exBaSp => [0xCB#8]
  | .exAB => [0xCC#8]
  | .exAMHl => [0xCD#8]
  | .subBaImm mmnn => [0xD0#8, loByte mmnn, hiByte mmnn]
  | .subHlImm mmnn => [0xD1#8, loByte mmnn, hiByte mmnn]
  | .subIxImm mmnn => [0xD2#8, loByte mmnn, hiByte mmnn]
  | .subIyImm mmnn => [0xD3#8, loByte mmnn, hiByte mmnn]
  | .cpBaImm mmnn => [0xD4#8, loByte mmnn, hiByte mmnn]
  | .cpHlImm mmnn => [0xD5#8, loByte mmnn, hiByte mmnn]
  | .cpIxImm mmnn => [0xD6#8, loByte mmnn, hiByte mmnn]
  | .cpIyImm mmnn => [0xD7#8, loByte mmnn, hiByte mmnn]
  | .andMBrImm ll nn => [0xD8#8, ll, nn]
  | .orMBrImm ll nn => [0xD9#8, ll, nn]
  | .xorMBrImm ll nn => [0xDA#8, ll, nn]
  | .cpMBrImm ll nn => [0xDB#8, ll, nn]
  | .bitMBrImm ll nn => [0xDC#8, ll, nn]
  | .ldMBrImm ll nn => [0xDD#8, ll, nn]
  | .pack => [0xDE#8]
  | .upck => [0xDF#8]
  | .carsC rr => [0xE0#8, rr]
  | .carsNc rr => [0xE1#8, rr]
  | .carsZ rr => [0xE2#8, rr]
  | .carsNz rr => [0xE3#8, rr]
  | .jrsC rr => [0xE4#8, rr]
  | .jrsNc rr => [0xE5#8, rr]
  | .jrsZ rr => [0xE6#8, rr]
  | .jrsNz rr => [0xE7#8, rr]
  | .carlC qqrr => [0xE8#8, loByte qqrr, hiByte qqrr]
  | .carlNc qqrr => [0xE9#8, loByte qqrr, hiByte qqrr]
  | .carlZ qqrr => [0xEA#8, loByte qqrr, hiByte qqrr]
  | .carlNz qqrr => [0xEB#8, loByte qqrr, hiByte qqrr]
  | .jrlC qqrr => [0xEC#8, loByte qqrr, hiByte qqrr]
  | .jrlNc qqrr => [0xED#8, loByte qqrr, hiByte qqrr]
  | .jrlZ qqrr => [0xEE#8, loByte qqrr, hiByte qqrr]
  | .jrlNz qqrr => [0xEF#8, loByte qqrr, hiByte qqrr]
  | .cars rr => [0xF0#8, rr]
  | .jrs rr => [0xF1#8, rr]
  | .carl qqrr => [0xF2#8, loByte qqrr, hiByte qqrr]
  | .jrl qqrr => [0xF3#8, loByte qqrr, hiByte qqrr]
  | .jpHl => [0xF4#8]
  | .djrNz rr => [0xF5#8, rr]
  | .swapA => [0xF6#8]
  | .swapMHl => [0xF7#8]
  | .ret => [0xF8#8]
  | .rete => [0xF9#8]
  | .rets => [0xFA#8]
  | .callMAbs hhll => [0xFB#8, loByte hhll, hiByte hhll]
  | .intVec kk => [0xFC#8, kk]
  | .jpVec kk => [0xFD#8, kk]
  | .nop => [0xFF#8]
  | .addAMIxDd dd => [0xCE#8, 0x00#8, dd]
  | .addAMIyDd dd => [0xCE#8, 0x01#8, dd]
  | .addAMIxL => [0xCE#8, 0x02#8]
  | .addAMIyL => [0xCE#8, 0x03#8]
  | .addMHlA => [0xCE#8, 0x04#8]
  | .addMHlImm nn => [0xCE#8, 0x05#8, nn]
  | .addMHlMIx => [0xCE#8, 0x06#8]
  | .addMHlMIy => [0xCE#8, 0x07#8]
  | .adcAMIxDd dd => [0xCE#8, 0x08#8, dd]
  | .adcAMIyDd dd => [0xCE#8, 0x09#8, dd]
  | .adcAMIxL => [0xCE#8, 0x0A#8]
  | .adcAMIyL => [0xCE#8, 0x0B#8]
  | .adcMHlA => [0xCE#8, 0x0C#8]
  | .adcMHlImm nn => [0xCE#8, 0x0D#8, nn]
  | .adcMHlMIx => [0xCE#8, 0x0E#8]
  | .adcMHlMIy => [0xCE#8, 0x0F#8]
  | .subAMIxDd dd => [0xCE#8, 0x10#8, dd]
  | .subAMIyDd dd => [0xCE#8, 0x11#8, dd]
  | .subAMIxL => [0xCE#8, 0x12#8]
  | .subAMIyL => [0xCE#8, 0x13#8]
  | .subMHlA => [0xCE#8, 0x14#8]
  | .subMHlImm nn => [0xCE#8, 0x15#8, nn]
  | .subMHlMIx => [0xCE#8, 0x16#8]
  | .subMHlMIy => [0xCE#8, 0x17#8]
  | .sbcAMIxDd dd => [0xCE#8, 0x18#8, dd]
  | .sbcAMIyDd dd => [0xCE#8, 0x19#8, dd]
  | .sbcAMIxL => [0xCE#8, 0x1A#8]
  | .sbcAMIyL => [0xCE#8, 0x1B#8]
  | .sbcMHlA => [0xCE#8, 0x1C#8]
  | .sbcMHlImm nn => [0xCE#8, 0x1D#8, nn]
  | .sbcMHlMIx => [0xCE#8, 0x1E#8]
  | .sbcMHlMIy => [0xCE#8, 0x1F#8]
  | .andAMIxDd dd => [0xCE#8, 0x20#8, dd]
  | .andAMIyDd dd => [0xCE#8, 0x21#8, dd]
  | .andAMIxL => [0xCE#8, 0x22#8]
  | .andAMIyL => [0xCE#8, 0x23#8]
  | .andMHlA => [0xCE#8, 0x24#8]
  | .andMHlImm nn => [0xCE#8, 0x25#8, nn]
  | .andMHlMIx => [0xCE#8, 0x26#8]
  | .andMHlMIy => [0xCE#8, 0x27#8]
  | .orAMIxDd dd => [0xCE#8, 0x28#8, dd]
  | .orAMIyDd dd => [0xCE#8, 0x29#8, dd]
  | .orAMIxL => [0xCE#8, 0x2A#8]
  | .orAMIyL => [0xCE#8, 0x2B#8]
  | .orMHlA => [0xCE#8, 0x2C#8]
  | .orMHlImm nn => [0xCE#8, 0x2D#8, nn]
  | .orMHlMIx => [0xCE#8, 0x2E#8]
  | .orMHlMIy => [0xCE#8, 0x2F#8]
  | .cpAMIxDd dd => [0xCE#8, 0x30#8, dd]
  | .cpAMIyDd dd => [0xCE#8, 0x31#8, dd]
  | .cpAMIxL => [0xCE#8, 0x32#8]
  | .cpAMIyL => [0xCE#8, 0x33#8]
  | .cpMHlA => [0xCE#8, 0x34#8]
  | .cpMHlImm nn => [0xCE#8, 0x35#8, nn]
  | .cpMHlMIx => [0xCE#8, 0x36#8]
  | .cpMHlMIy => [0xCE#8, 0x37#8]
  | .xorAMIxDd dd => [0xCE#8, 0x38#8, dd]
  | .xorAMIyDd dd => [0xCE#8, 0x39#8, dd]
  | .xorAMIxL => [0xCE#8, 0x3A#8]
  | .xorAMIyL => [0xCE#8, 0x3B#8]
  | .xorMHlA => [0xCE#8, 0x3C#8]
  | .xorMHlImm nn => [0xCE#8, 0x3D#8, nn]
  | .xorMHlMIx => [0xCE#8, 0x3E#8]
  | .xorMHlMIy => [0xCE#8, 0x3F#8]
  | .ldAMIxDd dd => [0xCE#8, 0x40#8, dd]
  | .ldAMIyDd dd => [0xCE#8, 0x41#8, dd]
  | .ldAMIxL => [0xCE#8, 0x42#8]
  | .ldAMIyL => [0xCE#8, 0x43#8]
  | .ldMIxDdA dd => [0xCE#8, 0x44#8, dd]
  | .ldMIyDdA dd => [0xCE#8, 0x45#8, dd]
  | .ldMIxLA => [0xCE#8, 0x46#8]
  | .ldMIyLA => [0xCE#8, 0x47#8]
  | .ldBMIxDd dd => [0xCE#8, 0x48#8, dd]
  | .ldBMIyDd dd => [0xCE#8, 0x49#8, dd]
  | .ldBMIxL => [0xCE#8, 0x4A#8]
  | .ldBMIyL => [0xCE#8, 0x4B#8]
  | .ldMIxDdB dd => [0xCE#8, 0x4C#8, dd]
  | .ldMIyDdB dd => [0xCE#8, 0x4D#8, dd]
  | .ldMIxLB => [0xCE#8, 0x4E#8]
  | .ldMIyLB => [0xCE#8, 0x4F#8]
  | .ldLMIxDd dd => [0xCE#8, 0x50#8, dd]
  | .ldLMIyDd dd => [0xCE#8, 0x51#8, dd]
  | .ldLMIxL => [0xCE#8, 0x52#8]
  | .ldLMIyL => [0xCE#8, 0x53#8]
  | .ldMIxDdL dd => [0xCE#8, 0x54#8, dd]
  | .ldMIyDdL dd => [0xCE#8, 0x55#8, dd]
  | .ldMIxLL => [0xCE#8, 0x56#8]
  | .ldMIyLL => [0xCE#8, 0x57#8]
  | .ldHMIxDd dd => [0xCE#8, 0x58#8, dd]
  | .ldHMIyDd dd => [0xCE#8, 0x59#8, dd]
  | .ldHMIxL => [0xCE#8, 0x5A#8]
  | .ldHMIyL => [0xCE#8, 0x5B#8]
  | .ldMIxDdH dd => [0xCE#8, 0x5C#8, dd]
  | .ldMIyDdH dd => [0xCE#8, 0x5D#8, dd]
  | .ldMIxLH => [0xCE#8, 0x5E#8]
  | .ldMIyLH => [0xCE#8, 0x5F#8]
  | .ldMHlMIxDd dd => [0xCE#8, 0x60#8, dd]
  | .ldMHlMIyDd dd => [0xCE#8, 0x61#8, dd]
  | .ldMHlMIxL => [0xCE#8, 0x62#8]
  | .ldMHlMIyL => [0xCE#8, 0x63#8]
  | .ldMIxMIxDd dd => [0xCE#8, 0x68#8, dd]
  | .ldMIxMIyDd dd => [0xCE#8, 0x69#8, dd]
  | .ldMIxMIxL => [0xCE#8, 0x6A#8]
  | .ldMIxMIyL => [0xCE#8, 0x6B#8]
  | .ldMIyMIxDd dd => [0xCE#8, 0x78#8, dd]
  | .ldMIyMIyDd dd => [0xCE#8, 0x79#8, dd]
  | .ldMIyMIxL => [0xCE#8, 0x7A#8]
  | .ldMIyMIyL => [0xCE#8, 0x7B#8]
  | .slaA => [0xCE#8, 0x80#8]
  | .slaB => [0xCE#8, 0x81#8]
  | .slaMBr ll => [0xCE#8, 0x82#8, ll]
  | .slaMHl => [0xCE#8, 0x83#8]
  | .sllA => [0xCE#8, 0x84#8]
  | .sllB => [0xCE#8, 0x85#8]
  | .sllMBr ll => [0xCE#8, 0x86#8, ll]
  | .sllMHl => [0xCE#8, 0x87#8]
  | .sraA => [0xCE#8, 0x88#8]
  | .sraB => [0xCE#8, 0x89#8]
  | .sraMBr ll => [0xCE#8, 0x8A#8, ll]
  | .sraMHl => [0xCE#8, 0x8B#8]
  | .srlA => [0xCE#8, 0x8C#8]
  | .srlB => [0xCE#8, 0x8D#8]
  | .srlMBr ll => [0xCE#8, 0x8E#8, ll]
  | .srlMHl => [0xCE#8, 0x8F#8]
  | .rlA => [0xCE#8, 0x90#8]
  | .rlB => [0xCE#8, 0x91#8]
  | .rlMBr ll => [0xCE#8, 0x92#8, ll]
  | .rlMHl => [0xCE#8, 0x93#8]
  | .rlcA => [0xCE#8, 0x94#8]
  | .rlcB => [0xCE#8, 0x95#8]
  | .rlcMBr ll => [0xCE#8, 0x96#8, ll]
  | .rlcMHl => [0xCE#8, 0x97#8]
  | .rrA => [0xCE#8, 0x98#8]
  | .rrB => [0xCE#8, 0x99#8]
  | .rrMBr ll => [0xCE#8, 0x9A#8, ll]
  | .rrMHl => [0xCE#8, 0x9B#8]
  | .rrcA => [0xCE#8, 0x9C#8]
  | .rrcB => [0xCE#8, 0x9D#8]
  | .rrcMBr ll => [0xCE#8, 0x9E#8, ll]
  | .rrcMHl => [0xCE#8, 0x9F#8]
  | .cplA => [0xCE#8, 0xA0#8]
  | .cplB => [0xCE#8, 0xA1#8]
  | .cplMBr ll => [0xCE#8, 0xA2#8, ll]
  | .cplMHl => [0xCE#8, 0xA3#8]
  | .negA => [0xCE#8, 0xA4#8]
  | .negB => [0xCE#8, 0xA5#8]
  | .negMBr ll => [0xCE#8, 0xA6#8, ll]
  | .negMHl => [0xCE#8, 0xA7#8]
  | .sep => [0xCE#8, 0xA8#8]
  | .halt => [0xCE#8, 0xAE#8]
  | .slp => [0xCE#8, 0xAF#8]
  | .andBImm nn => [0xCE#8, 0xB0#8, nn]
  | .andLImm nn => [0xCE#8, 0xB1#8, nn]
  | .andHImm nn => [0xCE#8, 0xB2#8, nn]
  | .orBImm nn => [0xCE#8, 0xB4#8, nn]
  | .orLImm nn => [0xCE#8, 0xB5#8, nn]
  | .orHImm nn => [0xCE#8, 0xB6#8, nn]
  | .xorBImm nn => [0xCE#8, 0xB8#8, nn]
  | .xorLImm nn => [0xCE#8, 0xB9#8, nn]
  | .xorHImm nn => [0xCE#8, 0xBA#8, nn]
  | .cpBImm nn => [0xCE#8, 0xBC#8, nn]
  | .cpLImm nn => [0xCE#8, 0xBD#8, nn]
  | .cpHImm nn => [0xCE#8, 0xBE#8, nn]
  | .cpBrImm hh => [0xCE#8, 0xBF#8, hh]
  | .ldABr => [0xCE#8, 0xC0#8]
  | .ldASc => [0xCE#8, 0xC1#8]
  | .ldBrA => [0xCE#8, 0xC2#8]
  | .ldScA => [0xCE#8, 0xC3#8]
  | .ldNbImm bb => [0xCE#8, 0xC4#8, bb]
  | .ldEpImm pp => [0xCE#8, 0xC5#8, pp]
  | .ldXpImm pp => [0xCE#8, 0xC6#8, pp]
  | .ldYpImm pp => [0xCE#8, 0xC7#8, pp]
  | .ldANb => [0xCE#8, 0xC8#8]
  | .ldAEp => [0xCE#8, 0xC9#8]
  | .ldAXp => [0xCE#8, 0xCA#8]
  | .ldAYp => [0xCE#8, 0xCB#8]
  | .ldNbA => [0xCE#8, 0xCC#8]
  | .ldEpA => [0xCE#8, 0xCD#8]
  | .ldXpA => [0xCE#8, 0xCE#8]
  | .ldYpA => [0xCE#8, 0xCF#8]
  | .ldAMAbs hhll => [0xCE#8, 0xD0#8, loByte hhll, hiByte hhll]
  | .ldBMAbs hhll => [0xCE#8, 0xD1#8, loByte hhll, hiByte hhll]
  | .ldLMAbs hhll => [0xCE#8, 0xD2#8, loByte hhll, hiByte hhll]
  | .ldHMAbs hhll => [0xCE#8, 0xD3#8, loByte hhll, hiByte hhll]
  | .ldMAbsA hhll => [0xCE#8, 0xD4#8, loByte hhll, hiByte hhll]
  | .ldMAbsB hhll => [0xCE#8, 0xD5#8, loByte hhll, hiByte hhll]
  | .ldMAbsL hhll => [0xCE#8, 0xD6#8, loByte hhll, hiByte hhll]
  | .ldMAbsH hhll => [0xCE#8, 0xD7#8, loByte hhll, hiByte hhll]
  | .mlt => [0xCE#8, 0xD8#8]
  | .div => [0xCE#8, 0xD9#8]
  | .jrsLt rr => [0xCE#8, 0xE0#8, rr]
  | .jrsLe rr => [0xCE#8, 0xE1#8, rr]
  | .jrsGt rr => [0xCE#8, 0xE2#8, rr]
  | .jrsGe rr => [0xCE#8, 0xE3#8, rr]
  | .jrsV rr => [0xCE#8, 0xE4#8, rr]
  | .jrsNv rr => [0xCE#8, 0xE5#8, rr]
  | .jrsP rr => [0xCE#8, 0xE6#8, rr]
  | .jrsM rr => [0xCE#8, 0xE7#8, rr]
  | .jrsF0 rr => [0xCE#8, 0xE8#8, rr]
  | .jrsF1 rr => [0xCE#8, 0xE9#8, rr]
  | .jrsF2 rr => [0xCE#8, 0xEA#8, rr]
  | .jrsF3 rr => [0xCE#8, 0xEB#8, rr]
  | .jrsNf0 rr => [0xCE#8, 0xEC#8, rr]
  | .jrsNf1 rr => [0xCE#8, 0xED#8, rr]
  | .jrsNf2 rr => [0xCE#8, 0xEE#8, rr]
  | .jrsNf3 rr => [0xCE#8, 0xEF#8, rr]
  | .carsLt rr => [0xCE#8, 0xF0#8, rr]
  | .carsLe rr => [0xCE#8, 0xF1#8, rr]
  | .carsGt rr => [0xCE#8, 0xF2#8, rr]
  | .carsGe rr => [0xCE#8, 0xF3#8, rr]
  | .carsV rr => [0xCE#8, 0xF4#8, rr]
  | .carsNv rr => [0xCE#8, 0xF5#8, rr]
  | .carsP rr => [0xCE#8, 0xF6#8, rr]
  | .carsM rr => [0xCE#8, 0xF7#8, rr]
  | .carsF0 rr => [0xCE#8, 0xF8#8, rr]
  | .carsF1 rr => [0xCE#8, 0xF9#8, rr]
  | .carsF2 rr => [0xCE#8, 0xFA#8, rr]
  | .carsF3 rr => [0xCE#8, 0xFB#8, rr]
  | .carsNf0 rr => [0xCE#8, 0xFC#8, rr]
  | .carsNf1 rr => [0xCE#8, 0xFD#8, rr]
  | .carsNf2 rr => [0xCE#8, 0xFE#8, rr]
  | .carsNf3 rr => [0xCE#8, 0xFF#8, rr]
  | .addBaBa => [0xCF#8, 0x00#8]
  | .addBaHl => [0xCF#8, 0x01#8]
  | .addBaIx => [0xCF#8, 0x02#8]
  | .addBaIy => [0xCF#8, 0x03#8]
  | .adcBaBa => [0xCF#8, 0x04#8]
  | .adcBaHl => [0xCF#8, 0x05#8]
  | .adcBaIx => [0xCF#8, 0x06#8]
  | .adcBaIy => [0xCF#8, 0x07#8]
  | .subBaBa => [0xCF#8, 0x08#8]
  | .subBaHl => [0xCF#8, 0x09#8]
  | .subBaIx => [0xCF#8, 0x0A#8]
  | .subBaIy => [0xCF#8, 0x0B#8]
  | .sbcBaBa => [0xCF#8, 0x0C#8]
  | .sbcBaHl => [0xCF#8, 0x0D#8]
  | .sbcBaIx => [0xCF#8, 0x0E#8]
  | .sbcBaIy => [0xCF#8, 0x0F#8]
  | .cpBaBa => [0xCF#8, 0x18#8]
  | .cpBaHl => [0xCF#8, 0x19#8]
  | .cpBaIx => [0xCF#8, 0x1A#8]
  | .cpBaIy => [0xCF#8, 0x1B#8]
  | .addHlBa => [0xCF#8, 0x20#8]
  | .addHlHl => [0xCF#8, 0x21#8]
  | .addHlIx => [0xCF#8, 0x22#8]
  | .addHlIy => [0xCF#8, 0x23#8]
  | .adcHlBa => [0xCF#8, 0x24#8]
  | .adcHlHl => [0xCF#8, 0x25#8]
  | .adcHlIx => [0xCF#8, 0x26#8]
  | .adcHlIy => [0xCF#8, 0x27#8]
  | .subHlBa => [0xCF#8, 0x28#8]
  | .subHlHl => [0xCF#8, 0x29#8]
  | .subHlIx => [0xCF#8, 0x2A#8]
  | .subHlIy => [0xCF#8, 0x2B#8]
  | .sbcHlBa => [0xCF#8, 0x2C#8]
  | .sbcHlHl => [0xCF#8, 0x2D#8]
  | .sbcHlIx => [0xCF#8, 0x2E#8]
  | .sbcHlIy => [0xCF#8, 0x2F#8]
  | .cpHlBa => [0xCF#8, 0x38#8]
  | .cpHlHl => [0xCF#8, 0x39#8]
  | .cpHlIx => [0xCF#8, 0x3A#8]
  | .cpHlIy => [0xCF#8, 0x3B#8]
  | .addIxBa => [0xCF#8, 0x40#8]
  | .addIxHl => [0xCF#8, 0x41#8]
  | .addIyBa => [0xCF#8, 0x42#8]
  | .addIyHl => [0xCF#8, 0x43#8]
  | .addSpBa => [0xCF#8, 0x44#8]
  | .addSpHl => [0xCF#8, 0x45#8]
  | .subIxBa => [0xCF#8, 0x48#8]
  | .subIxHl => [0xCF#8, 0x49#8]
  | .subIyBa => [0xCF#8, 0x4A#8]
  | .subIyHl => [0xCF#8, 0x4B#8]
  | .subSpBa => [0xCF#8, 0x4C#8]
  | .subSpHl => [0xCF#8, 0x4D#8]
  | .cpSpBa => [0xCF#8, 0x5C#8]
  | .cpSpHl => [0xCF#8, 0x5D#8]
  | .adcBaImm mmnn => [0xCF#8, 0x60#8, loByte mmnn, hiByte mmnn]
  | .adcHlImm mmnn => [0xCF#8, 0x61#8, loByte mmnn, hiByte mmnn]
  | .sbcBaImm mmnn => [0xCF#8, 0x62#8, loByte mmnn, hiByte mmnn]
  | .sbcHlImm mmnn => [0xCF#8, 0x63#8, loByte mmnn, hiByte mmnn]
  | .addSpImm mmnn => [0xCF#8, 0x68#8, loByte mmnn, hiByte mmnn]
  | .subSpImm mmnn => [0xCF#8, 0x6A#8, loByte mmnn, hiByte mmnn]
  | .cpSpImm mmnn => [0xCF#8, 0x6C#8, loByte mmnn, hiByte mmnn]
  | .ldSpImm mmnn => [0xCF#8, 0x6E#8, loByte mmnn, hiByte mmnn]
  | .ldBaMSpDd dd => [0xCF#8, 0x70#8, dd]
  | .ldHlMSpDd dd => [0xCF#8, 0x71#8, dd]
  | .ldIxMSpDd dd => [0xCF#8, 0x72#8, dd]
  | .ldIyMSpDd dd => [0xCF#8, 0x73#8, dd]
  | .ldMSpDdBa dd => [0xCF#8, 0x74#8, dd]
  | .ldMSpDdHl dd => [0xCF#8, 0x75#8, dd]
  | .ldMSpDdIx dd => [0xCF#8, 0x76#8, dd]
  | .ldMSpDdIy dd => [0xCF#8, 0x77#8, dd]
  | .ldSpMAbs hhll => [0xCF#8, 0x78#8, loByte hhll, hiByte hhll]
  | .ldMAbsSp hhll => [0xCF#8, 0x7C#8, loByte hhll, hiByte hhll]
  | .pushA => [0xCF#8, 0xB0#8]
  | .pushB => [0xCF#8, 0xB1#8]
  | .pushL => [0xCF#8, 0xB2#8]
  | .pushH => [0xCF#8, 0xB3#8]
  | .popA => [0xCF#8, 0xB4#8]
  | .popB => [0xCF#8, 0xB5#8]
  | .popL => [0xCF#8, 0xB6#8]
  | .popH => [0xCF#8, 0xB7#8]
  | .pushAll => [0xCF#8, 0xB8#8]
  | .pushAle => [0xCF#8, 0xB9#8]
  | .popAll => [0xCF#8, 0xBC#8]
  | .popAle => [0xCF#8, 0xBD#8]
  | .ldBaMHl => [0xCF#8, 0xC0#8]
  | .ldHlMHl => [0xCF#8, 0xC1#8]
  | .ldIxMHl => [0xCF#8, 0xC2#8]
  | .ldIyMHl => [0xCF#8, 0xC3#8]
  | .ldMHlBa => [0xCF#8, 0xC4#8]
  | .ldMHlHl => [0xCF#8, 0xC5#8]
  | .ldMHlIx => [0xCF#8, 0xC6#8]
  | .ldMHlIy => [0xCF#8, 0xC7#8]
  | .ldBaMIx => [0xCF#8, 0xD0#8]
  | .ldHlMIx => [0xCF#8, 0xD1#8]
  | .ldIxMIx => [0xCF#8, 0xD2#8]
  | .ldIyMIx => [0xCF#8, 0xD3#8]
  | .ldMIxBa => [0xCF#8, 0xD4#8]
  | .ldMIxHl => [0xCF#8, 0xD5#8]
  | .ldMIxIx => [0xCF#8, 0xD6#8]
  | .ldMIxIy => [0xCF#8, 0xD7#8]
  | .ldBaMIy => [0xCF#8, 0xD8#8]
  | .ldHlMIy => [0xCF#8, 0xD9#8]
  | .ldIxMIy => [0xCF#8, 0xDA#8]
  | .ldIyMIy => [0xCF#8, 0xDB#8]
  | .ldMIyBa => [0xCF#8, 0xDC#8]
  | .ldMIyHl => [0xCF#8, 0xDD#8]
  | .ldMIyIx => [0xCF#8, 0xDE#8]
  | .ldMIyIy => [0xCF#8, 0xDF#8]
  | .ldBaBa => [0xCF#8, 0xE0#8]
  | .ldBaHl => [0xCF#8, 0xE1#8]
  | .ldBaIx => [0xCF#8, 0xE2#8]
  | .ldBaIy => [0xCF#8, 0xE3#8]
  | .ldHlBa => [0xCF#8, 0xE4#8]
  | .ldHlHl => [0xCF#8, 0xE5#8]
  | .ldHlIx => [0xCF#8, 0xE6#8]
  | .ldHlIy => [0xCF#8, 0xE7#8]
  | .ldIxBa => [0xCF#8, 0xE8#8]
  | .ldIxHl => [0xCF#8, 0xE9#8]
  | .ldIxIx => [0xCF#8, 0xEA#8]
  | .ldIxIy => [0xCF#8, 0xEB#8]
  | .ldIyBa => [0xCF#8, 0xEC#8]
  | .ldIyHl => [0xCF#8, 0xED#8]
  | .ldIyIx => [0xCF#8, 0xEE#8]
  | .ldIyIy => [0xCF#8, 0xEF#8]
  | .ldSpBa => [0xCF#8, 0xF0#8]
  | .ldSpHl => [0xCF#8, 0xF1#8]
  | .ldSpIx => [0xCF#8, 0xF2#8]
  | .ldSpIy => [0xCF#8, 0xF3#8]
  | .ldHlSp => [0xCF#8, 0xF4#8]
  | .ldHlPc => [0xCF#8, 0xF5#8]
  | .ldBaSp => [0xCF#8, 0xF8#8]
  | .ldBaPc => [0xCF#8, 0xF9#8]
  | .ldIxSp => [0xCF#8, 0xFA#8]
  | .ldIySp => [0xCF#8, 0xFE#8]

/-- The op-code of an instruction, without its operands (R102). -/
def opcodeOf (i : Instr) : OpCode :=
  match encode i with
  | [] => .one 0x00#8
  | [b] => .one b
  | b :: c :: _ => if b = 0xCE#8 then .ce c else if b = 0xCF#8 then .cf c else .one b

/-- The length of an instruction in bytes (R106). -/
def lengthOf (i : Instr) : Nat := (encode i).length

end Sys2Proof
end

