-- ==== Sys2Proof/Machine/State.lean ====
section
/-! DEFINITION. The state of the machine as plain data: every register of R20, the hidden state of R45, memory, the device's parameters and the inputs of R736; the reasons a step can stop; the state at reset. -/

namespace Sys2Proof.Machine

/-- The processing statuses (R700, R45). -/
inductive Status where
  /-- "Status where the CPU is reset and stopped." -/
  | reset
  /-- Program execution status. -/
  | run
  /-- Exception processing status: transitive, no next state has it (log 33); a fault inside an exception processing sequence stops in it. -/
  | exception
  /-- Bus authority release status, with the status it came from: `halt` if `fromHalt`, else `run` (R702). -/
  | busReleased (fromHalt : Bool)
  /-- Standby status, HALT (R717). -/
  | halt
  /-- Standby status, SLEEP (R718). -/
  | sleep
deriving DecidableEq, Repr

/-- Memory: the bytes that hold a value, as pairs of address and byte, addresses strictly rising (R60; an unlisted byte holds no value, U7). -/
abbrev Memory := List Host.Cell

/-- One byte access of the external bus master (R716). -/
inductive MasterAccess where
  | read (a : Addr)
  | write (a : Addr) (v : Byte)
deriving DecidableEq, Repr

/-- What the outside does at one memory access of the CPU (R736, D6, D31, log 19): the accesses of the bus master in the bus cycle break-point before it, whether SR goes LOW there after them, and the byte a device puts on the data bus if the access is an I/O read (none: the device function answers). -/
structure BusCycle where
  master : List MasterAccess
  cut : Bool
  data : Option Byte
deriving DecidableEq, Repr

/-- The input signals of the core at one sampling point (R9, R736). A `Low` field is true while the active-low line is LOW. -/
structure Pins where
  /-- SR (R701). -/
  srLow : Bool
  /-- A falling edge on NMI since the last sampling point (R653). -/
  nmiEdge : Bool
  /-- IRQ3, IRQ2, IRQ1 (R654). -/
  irq3Low : Bool
  irq2Low : Bool
  irq1Low : Bool
  /-- IMASK (R662). -/
  imaskLow : Bool
  /-- BREQ (R716). -/
  breqLow : Bool
  /-- CC: bits F3 F2 F1 F0 (R38). -/
  f : BitVec 4
  /-- IrqVector(3), IrqVector(2), IrqVector(1): the byte the peripheral circuit supplies at acceptance (R658). -/
  vector3 : Byte
  vector2 : Byte
  vector1 : Byte
  /-- What the external bus master does while it owns the bus at this point, in order (R716). -/
  master : List MasterAccess
  /-- What comes with each memory access of the CPU in this step, in order (R716, R704); behind the end of the list nothing does. -/
  cycles : List BusCycle
deriving DecidableEq, Repr

/-- The whole machine. -/
structure State where
  /-- Data register A (R21). -/
  a : Byte
  /-- Data register B (R21). -/
  b : Byte
  /-- L, lower byte of HL (R22). -/
  l : Byte
  /-- H, upper byte of HL (R22). -/
  h : Byte
  /-- Base register (R24). -/
  br : Byte
  /-- System condition flag: I1 I0 U D N V C Z, bits 7 to 0 (R29). -/
  sc : Byte
  /-- New code bank register (R41). -/
  nb : Byte
  /-- Code bank register (R40). -/
  cb : Byte
  /-- Expand page register (R42). -/
  ep : Byte
  /-- Expand page register for IX (R43). -/
  xp : Byte
  /-- Expand page register for IY (R43). -/
  yp : Byte
  /-- Index register IX (R23). -/
  ix : Word
  /-- Index register IY (R23). -/
  iy : Word
  /-- Stack pointer (R25). -/
  sp : Word
  /-- Program counter (R27): while an instruction executes, `pc_next` (log 32). -/
  pc : Word
  /-- Processing status (R45, R700). -/
  status : Status
  /-- The latched NMI edge (R45, R653). -/
  nmiPending : Bool
  /-- A zero division not yet taken (R45, R652). -/
  zdivPending : Bool
  /-- Interrupt acceptance held off for one instruction (R45, R661). -/
  intHoldoff : Bool
  /-- IACK is LOW (R671, R719): an exception entry or the reset sequence has run and no sampling point has since taken nothing. -/
  iackLow : Bool
  /-- Memory (R60). -/
  mem : Memory
  /-- The device's parameters, constant over a run (R9, U11). -/
  cfg : Config
  /-- The inputs as last sampled (R736). -/
  pins : Pins
  /-- The inputs still to come, one entry per step (R736, log 22). -/
  schedule : List Pins
  /-- What comes with the memory accesses still to be made in this step (R716, R704, log 19). -/
  bus : List BusCycle
  /-- The byte accesses of the run, the newest first (R736, R76); what the device function of an I/O read is given (D8, log 5). -/
  trace : List BusEvent
  /-- THE MODEL'S OWN: how many instructions have begun; the index of the free values (log 9). -/
  freeCount : Nat
deriving DecidableEq, Repr

/-- Why a step stops with a fault, and the state it stops in: what the step did before stays, nothing comes after (R735 (b), log 35). Each is a case that the spec calls undefined and treats as a fault of the program. -/
inductive Fault where
  /-- Raised by the fetch at an op-code the list does not assign (U1, R123). Safe: the hardware's behaviour is not in the spec, the model stops. -/
  | undefinedOpcode (s : State)
  /-- Raised by MLT and DIV on MODEL0 and MODEL2 (U3). Safe: the hardware's behaviour is not in the spec, the model stops. -/
  | noMulDiv (s : State)
  /-- Raised by an instruction that names an expansion register on MODEL0 and MODEL1 (U4). Safe, as before. -/
  | noExpansion (s : State)
  /-- Raised by the read of a memory byte that holds no value (U7, D19). Safe: the hardware reads some value. -/
  | unwrittenByte (a : Addr) (s : State)
  /-- Raised by the read of a write-only or absent address (U9). Safe. -/
  | unreadable (a : Addr) (s : State)
  /-- Raised by an instruction that changes the byte the overlapped fetch reads (U10, R79). Safe. -/
  | overlappedStore (a : Addr) (s : State)
deriving DecidableEq, Repr

/-- The state in which a fault stops the machine (R735 (b)). -/
def Fault.state : Fault → State
  | .undefinedOpcode s => s
  | .noMulDiv s => s
  | .noExpansion s => s
  | .unwrittenByte _ s => s
  | .unreadable _ s => s
  | .overlappedStore _ s => s

/-- Why a step is refused. -/
inductive Refusal where
  /-- Raised by no meaning: an arm of `exec` whose instruction has no meaning yet. Safe. -/
  | notModelled (mnemonic : String)
deriving DecidableEq, Repr

/-- All inputs inactive; DESIGN CHOICE (log 22): F0 to F3 are 0, the vector bytes 06H. -/
def Pins.idle : Pins :=
  { srLow := false, nmiEdge := false, irq3Low := false, irq2Low := false, irq1Low := false,
    imaskLow := false, breqLow := false, f := 0#4, vector3 := 0x06#8, vector2 := 0x06#8,
    vector1 := 0x06#8, master := [], cycles := [] }

/-- DESIGN CHOICE (log 7): the device the reset state stands for, MODEL3 in the minimum mode, stack page 00H, RAM over the whole address space, the default HOLDOFF_SET (R661). -/
def resetConfig : Config :=
  { model := .model3, mode := .minimum, spp := 0x00#8,
    memoryMap := [{ base := 0, size := 0x1000000, kind := .ram }],
    holdoffSet := Config.defaultHoldoffSet }

/-- The machine right after reset (R46, R701): SR has just gone HIGH, the reset exception processing is the first step. SC, NB, EP, XP, YP and the hidden state are the spec's; A, B, L, H, BR, IX, IY, SP, PC and CB are "Undefined" there and hold the values of log 1 and log 2. -/
def State.reset : State :=
  { a := 0x00#8, b := 0x00#8, l := 0x00#8, h := 0x00#8, br := 0x00#8,
    sc := 0xC0#8, nb := 0x01#8, cb := 0x01#8, ep := 0x00#8, xp := 0x00#8, yp := 0x00#8,
    ix := 0x0000#16, iy := 0x0000#16, sp := 0x0000#16, pc := 0x0000#16,
    status := .reset, nmiPending := false, zdivPending := false, intHoldoff := false,
    iackLow := false, mem := [], cfg := resetConfig, pins := Pins.idle, schedule := [],
    bus := [], trace := [], freeCount := 0 }

end Sys2Proof.Machine
end

