-- ==== Sys2Proof/Machine/Flags.lean ====
section
/-! DEFINITION. The flags of SC (R29) and every result and flag computation of the spec: binary, decimal and unpacked 8-bit arithmetic (R141 to R145), 16-bit arithmetic (R440), logic (R230), shifts and rotates (R500 to R527), multiplication and division (R217, R218). -/

namespace Sys2Proof.Machine

/-- The eight flags of SC (R29). -/
inductive Flag where
  | z | c | v | n | d | u | i0 | i1
deriving DecidableEq, Repr

/-- The bit of SC that holds a flag (R29). -/
def Flag.bit : Flag → Nat
  | .z => 0
  | .c => 1
  | .v => 2
  | .n => 3
  | .d => 4
  | .u => 5
  | .i0 => 6
  | .i1 => 7

/-- Read a flag of SC. -/
def State.flag (s : State) (f : Flag) : Bool := s.sc.getLsbD f.bit

/-- A byte with one bit replaced. -/
def putBit (b : Byte) (i : Nat) (on : Bool) : Byte :=
  if on then b ||| (1#8 <<< i) else b &&& ~~~(1#8 <<< i)

/-- Replace the whole of SC (R29). -/
def State.setSc (s : State) (v : Byte) : State := { s with sc := v }

/-- Write one flag of SC, the other seven unchanged. -/
def State.setFlag (s : State) (f : Flag) (on : Bool) : State := s.setSc (putBit s.sc f.bit on)

/-- The interrupt priority level, I1 ++ I0 as a number (R36). -/
def State.level (s : State) : Nat := 2 * (s.flag .i1).toNat + (s.flag .i0).toNat

/-- A result of the ALU with the four result flags (R145). -/
structure Alu (w : Nat) where
  value : BitVec w
  n : Bool
  v : Bool
  c : Bool
  z : Bool
deriving DecidableEq, Repr

/-- Is an exact signed result outside the range of `w` bits (R32)? -/
def outOfRange (w : Nat) (t : Int) : Bool := decide (t < -(2 ^ (w - 1))) || decide (2 ^ (w - 1) ≤ t)

/-- Binary addition of `w` bits: Add8 (R141), Add16 (R440), and the low digits of UnpAdd8 (R143). -/
def addBits {w : Nat} (a b : BitVec w) (cin : Bool) : Alu w :=
  let sum := a.toNat + b.toNat + cin.toNat
  let res := BitVec.ofNat w sum
  { value := res, n := res.msb, z := res == 0#w,
    c := decide (2 ^ w ≤ sum),
    v := outOfRange w (a.toInt + b.toInt + cin.toNat) }

/-- Binary subtraction of `w` bits: Sub8 (R144), Sub16 (R440), and the low digits of UnpSub8 (R143). C is the borrow. -/
def subBits {w : Nat} (a b : BitVec w) (bin : Bool) : Alu w :=
  let diff : Int := (a.toNat : Int) - b.toNat - bin.toNat
  let res := BitVec.ofInt w diff
  { value := res, n := res.msb, z := res == 0#w,
    c := decide (diff < 0),
    v := outOfRange w (a.toInt - b.toInt - bin.toNat) }

/-- The result of an unpack operation: "'0' is output for the upper 4 bits" (R143). -/
def unpacked (r : Alu 4) : Alu 8 :=
  { value := 0#4 ++ r.value, n := r.n, v := r.v, c := r.c, z := r.z }

/-- Is a digit 0 to 9? -/
def isDigit (d : BitVec 4) : Bool := decide (d.toNat ≤ 9)

/-- Are both digits of a byte BCD (R142)? -/
def isBcd (x : Byte) : Bool := isDigit (hiNibble x) && isDigit (loNibble x)

/-- `val` of R142. -/
def bcdValue (x : Byte) : Nat := 10 * (hiNibble x).toNat + (loNibble x).toNat

/-- `bcd` of R142, for values up to 99. -/
def bcdByte (v : Nat) : Byte := BitVec.ofNat 4 (v / 10) ++ BitVec.ofNat 4 (v % 10)

/-- A decimal result: N and V are always reset (R142, U14). -/
def decimal {w : Nat} (value : BitVec w) (c : Bool) : Alu w :=
  { value := value, n := false, v := false, c := c, z := value == 0#w }

/-- The decimal result on operands that are not BCD: result, C and Z are free values (U5, log 9); N and V are reset (U14). -/
def nonBcd (k : Nat) : Alu 8 :=
  { value := Config.nonBcdResult k, n := false, v := false,
    c := Config.nonBcdCarry k, z := Config.nonBcdZero k }

/-- The same for one digit, the upper four bits 0 (R143, U5, log 9). -/
def nonBcdUnpacked (k : Nat) : Alu 4 :=
  { value := Config.nonBcdDigit k, n := false, v := false,
    c := Config.nonBcdCarry k, z := Config.nonBcdZero k }

/-- DecAdd8 (R142). -/
def decAdd (k : Nat) (a b : Byte) (cin : Bool) : Alu 8 :=
  if isBcd a && isBcd b then
    let t := bcdValue a + bcdValue b + cin.toNat
    decimal (bcdByte (t % 100)) (decide (100 ≤ t))
  else nonBcd k

/-- DecSub8 (R142). -/
def decSub (k : Nat) (a b : Byte) (bin : Bool) : Alu 8 :=
  if isBcd a && isBcd b then
    let t : Int := (bcdValue a : Int) - bcdValue b - bin.toNat
    decimal (bcdByte (t % 100).toNat) (decide (t < 0))
  else nonBcd k

/-- UnpDecAdd8 (R143): one decimal digit (D14, log 10). -/
def unpDecAdd (k : Nat) (a b : BitVec 4) (cin : Bool) : Alu 4 :=
  if isDigit a && isDigit b then
    let t := a.toNat + b.toNat + cin.toNat
    decimal (BitVec.ofNat 4 (t % 10)) (decide (10 ≤ t))
  else nonBcdUnpacked k

/-- UnpDecSub8 (R143): one decimal digit (D14, log 10). -/
def unpDecSub (k : Nat) (a b : BitVec 4) (bin : Bool) : Alu 4 :=
  if isDigit a && isDigit b then
    let t : Int := (a.toNat : Int) - b.toNat - bin.toNat
    decimal (BitVec.ofNat 4 (t % 10).toNat) (decide (t < 0))
  else nonBcdUnpacked k

/-- ArithAdd (R145): D and U of SC choose the operation. -/
def arithAdd (s : State) (a b : Byte) (cin : Bool) : Alu 8 :=
  match s.flag .d, s.flag .u with
  | false, false => addBits a b cin
  | true, false => decAdd s.freeCount a b cin
  | false, true => unpacked (addBits (loNibble a) (loNibble b) cin)
  | true, true => unpacked (unpDecAdd s.freeCount (loNibble a) (loNibble b) cin)

/-- ArithSub (R145). -/
def arithSub (s : State) (a b : Byte) (bin : Bool) : Alu 8 :=
  match s.flag .d, s.flag .u with
  | false, false => subBits a b bin
  | true, false => decSub s.freeCount a b bin
  | false, true => unpacked (subBits (loNibble a) (loNibble b) bin)
  | true, true => unpacked (unpDecSub s.freeCount (loNibble a) (loNibble b) bin)

/-- Write N, V, C and Z of a result (R37). -/
def State.setNVCZ {w : Nat} (s : State) (r : Alu w) : State :=
  (((s.setFlag .n r.n).setFlag .v r.v).setFlag .c r.c).setFlag .z r.z

/-- Write N and Z of an 8-bit result (R230). -/
def State.setNZ (s : State) (res : Byte) : State := (s.setFlag .n res.msb).setFlag .z (res == 0#8)

/-- The four arithmetic operations with D and U honoured, and their 16-bit namesakes (R145, R440). -/
inductive ArithOp where
  | add | adc | sub | sbc
deriving DecidableEq, Repr

/-- The 8-bit operation in a state: it reads C, D and U (R145). -/
def ArithOp.on8 : ArithOp → State → Byte → Byte → Alu 8
  | .add, s, a, b => arithAdd s a b false
  | .adc, s, a, b => arithAdd s a b (s.flag .c)
  | .sub, s, a, b => arithSub s a b false
  | .sbc, s, a, b => arithSub s a b (s.flag .c)

/-- The 16-bit operation in a state: it reads C only (R440). -/
def ArithOp.on16 : ArithOp → State → Word → Word → Alu 16
  | .add, _, a, b => addBits a b false
  | .adc, s, a, b => addBits a b (s.flag .c)
  | .sub, _, a, b => subBits a b false
  | .sbc, s, a, b => subBits a b (s.flag .c)

/-- The logic operations (R230). -/
inductive LogicOp where
  | and | or | xor
deriving DecidableEq, Repr

/-- Logic8, bit by bit (R230). -/
def LogicOp.eval : LogicOp → Byte → Byte → Byte
  | .and, a, b => a &&& b
  | .or, a, b => a ||| b
  | .xor, a, b => a ^^^ b

/-- The shifts and rotates (R500). -/
inductive ShiftOp where
  | sla | sll | sra | srl | rl | rlc | rr | rrc
deriving DecidableEq, Repr

/-- The bit that enters, of operand `x` with C flag `cin` (R504 to R527). -/
def ShiftOp.bitIn : ShiftOp → Byte → Bool → Bool
  | .sla, _, _ => false
  | .sll, _, _ => false
  | .sra, x, _ => x.getLsbD 7
  | .srl, _, _ => false
  | .rl, _, cin => cin
  | .rlc, x, _ => x.getLsbD 7
  | .rr, _, cin => cin
  | .rrc, x, _ => x.getLsbD 0

/-- Does the operation move towards bit 7? -/
def ShiftOp.isLeft : ShiftOp → Bool
  | .sla => true
  | .sll => true
  | .sra => false
  | .srl => false
  | .rl => true
  | .rlc => true
  | .rr => false
  | .rrc => false

/-- The value written back: one bit position to the left or to the right (R500, R504 to R527). -/
def ShiftOp.result (op : ShiftOp) (x : Byte) (cin : Bool) : Byte :=
  if op.isLeft then x.extractLsb' 0 7 ++ BitVec.ofBool (op.bitIn x cin)
  else BitVec.ofBool (op.bitIn x cin) ++ x.extractLsb' 1 7

/-- The bit that leaves goes to C (R504 to R527). -/
def ShiftOp.carry (op : ShiftOp) (x : Byte) : Bool :=
  if op.isLeft then x.getLsbD 7 else x.getLsbD 0

/-- V: written by SLA (x[7] xor x[6], D27, log 11) and reset by SRA; unchanged otherwise (R500). -/
def ShiftOp.overflow (op : ShiftOp) (s : State) (x : Byte) : Bool :=
  match op with
  | .sla => x.getLsbD 7 ^^ x.getLsbD 6
  | .sra => false
  | .sll => s.flag .v
  | .srl => s.flag .v
  | .rl => s.flag .v
  | .rlc => s.flag .v
  | .rr => s.flag .v
  | .rrc => s.flag .v

/-- A shift or rotate with its flags: N and Z by R500 (d). SRL's "N reset" is bit 7 of its result (R513). -/
def ShiftOp.apply (op : ShiftOp) (s : State) (x : Byte) : Alu 8 :=
  let res := op.result x (s.flag .c)
  { value := res, n := res.msb, v := op.overflow s x, c := op.carry x, z := res == 0#8 }

/-- The product of MLT (R217). -/
def product (l a : Byte) : Word := BitVec.ofNat 16 (l.toNat * a.toNat)

end Sys2Proof.Machine
end

