-- ==== Sys2Proof/WellFormed.lean ====
section
/-! DEFINITION. Which instructions a CPU model has (R3, R123): every operand byte value is legal (R123), so the one condition on an instruction is that its model has the unit it names. -/

namespace Sys2Proof

/-- The unit an instruction needs. -/
inductive Need where
  /-- Every model. -/
  | core
  /-- Multiplication and division: MODEL1 and MODEL3 (R217, R218). -/
  | mulDiv
  /-- The registers NB, EP, XP, YP: MODEL2 and MODEL3 (R39). -/
  | expansion
deriving DecidableEq, Repr

/-- The unit each instruction needs (the field `models` of the op-code table). -/
def Instr.need : Instr → Need
  | .mlt | .div
      => .mulDiv
  | .pushEp | .pushIp | .popEp | .popIp | .ldNbImm _ | .ldEpImm _ | .ldXpImm _ | .ldYpImm _ | .ldANb | .ldAEp
  | .ldAXp | .ldAYp | .ldNbA | .ldEpA | .ldXpA | .ldYpA | .pushAle | .popAle
      => .expansion
  | .addAA | .addAB | .addAImm _ | .addAMHl | .addAMBr _ | .addAMAbs _ | .addAMIx | .addAMIy | .adcAA
  | .adcAB | .adcAImm _ | .adcAMHl | .adcAMBr _ | .adcAMAbs _ | .adcAMIx | .adcAMIy | .subAA | .subAB
  | .subAImm _ | .subAMHl | .subAMBr _ | .subAMAbs _ | .subAMIx | .subAMIy | .sbcAA | .sbcAB | .sbcAImm _
  | .sbcAMHl | .sbcAMBr _ | .sbcAMAbs _ | .sbcAMIx | .sbcAMIy | .andAA | .andAB | .andAImm _ | .andAMHl
  | .andAMBr _ | .andAMAbs _ | .andAMIx | .andAMIy | .orAA | .orAB | .orAImm _ | .orAMHl | .orAMBr _
  | .orAMAbs _ | .orAMIx | .orAMIy | .cpAA | .cpAB | .cpAImm _ | .cpAMHl | .cpAMBr _ | .cpAMAbs _ | .cpAMIx
  | .cpAMIy | .xorAA | .xorAB | .xorAImm _ | .xorAMHl | .xorAMBr _ | .xorAMAbs _ | .xorAMIx | .xorAMIy
  | .ldAA | .ldAB | .ldAL | .ldAH | .ldAMBr _ | .ldAMHl | .ldAMIx | .ldAMIy | .ldBA | .ldBB | .ldBL | .ldBH
  | .ldBMBr _ | .ldBMHl | .ldBMIx | .ldBMIy | .ldLA | .ldLB | .ldLL | .ldLH | .ldLMBr _ | .ldLMHl | .ldLMIx
  | .ldLMIy | .ldHA | .ldHB | .ldHL | .ldHH | .ldHMBr _ | .ldHMHl | .ldHMIx | .ldHMIy | .ldMIxA | .ldMIxB
  | .ldMIxL | .ldMIxH | .ldMIxMBr _ | .ldMIxMHl | .ldMIxMIx | .ldMIxMIy | .ldMHlA | .ldMHlB | .ldMHlL
  | .ldMHlH | .ldMHlMBr _ | .ldMHlMHl | .ldMHlMIx | .ldMHlMIy | .ldMIyA | .ldMIyB | .ldMIyL | .ldMIyH
  | .ldMIyMBr _ | .ldMIyMHl | .ldMIyMIx | .ldMIyMIy | .ldMBrA _ | .ldMBrB _ | .ldMBrL _ | .ldMBrH _
  | .ldMBrMHl _ | .ldMBrMIx _ | .ldMBrMIy _ | .incA | .incB | .incL | .incH | .incBr | .incMBr _ | .incMHl
  | .incSp | .decA | .decB | .decL | .decH | .decBr | .decMBr _ | .decMHl | .decSp | .incBa | .incHl | .incIx
  | .incIy | .bitAB | .bitMHlImm _ | .bitAImm _ | .bitBImm _ | .decBa | .decHl | .decIx | .decIy
  | .andScImm _ | .orScImm _ | .xorScImm _ | .ldScImm _ | .pushBa | .pushHl | .pushIx | .pushIy | .pushBr
  | .pushSc | .popBa | .popHl | .popIx | .popIy | .popBr | .popSc | .ldAImm _ | .ldBImm _ | .ldLImm _
  | .ldHImm _ | .ldBrImm _ | .ldMHlImm _ | .ldMIxImm _ | .ldMIyImm _ | .ldBaMAbs _ | .ldHlMAbs _
  | .ldIxMAbs _ | .ldIyMAbs _ | .ldMAbsBa _ | .ldMAbsHl _ | .ldMAbsIx _ | .ldMAbsIy _ | .addBaImm _
  | .addHlImm _ | .addIxImm _ | .addIyImm _ | .ldBaImm _ | .ldHlImm _ | .ldIxImm _ | .ldIyImm _ | .exBaHl
  | .exBaIx | .exBaIy | .exBaSp | .exAB | .exAMHl | .subBaImm _ | .subHlImm _ | .subIxImm _ | .subIyImm _
  | .cpBaImm _ | .cpHlImm _ | .cpIxImm _ | .cpIyImm _ | .andMBrImm _ _ | .orMBrImm _ _ | .xorMBrImm _ _
  | .cpMBrImm _ _ | .bitMBrImm _ _ | .ldMBrImm _ _ | .pack | .upck | .carsC _ | .carsNc _ | .carsZ _
  | .carsNz _ | .jrsC _ | .jrsNc _ | .jrsZ _ | .jrsNz _ | .carlC _ | .carlNc _ | .carlZ _ | .carlNz _
  | .jrlC _ | .jrlNc _ | .jrlZ _ | .jrlNz _ | .cars _ | .jrs _ | .carl _ | .jrl _ | .jpHl | .djrNz _ | .swapA
  | .swapMHl | .ret | .rete | .rets | .callMAbs _ | .intVec _ | .jpVec _ | .nop | .addAMIxDd _ | .addAMIyDd _
  | .addAMIxL | .addAMIyL | .addMHlA | .addMHlImm _ | .addMHlMIx | .addMHlMIy | .adcAMIxDd _ | .adcAMIyDd _
  | .adcAMIxL | .adcAMIyL | .adcMHlA | .adcMHlImm _ | .adcMHlMIx | .adcMHlMIy | .subAMIxDd _ | .subAMIyDd _
  | .subAMIxL | .subAMIyL | .subMHlA | .subMHlImm _ | .subMHlMIx | .subMHlMIy | .sbcAMIxDd _ | .sbcAMIyDd _
  | .sbcAMIxL | .sbcAMIyL | .sbcMHlA | .sbcMHlImm _ | .sbcMHlMIx | .sbcMHlMIy | .andAMIxDd _ | .andAMIyDd _
  | .andAMIxL | .andAMIyL | .andMHlA | .andMHlImm _ | .andMHlMIx | .andMHlMIy | .orAMIxDd _ | .orAMIyDd _
  | .orAMIxL | .orAMIyL | .orMHlA | .orMHlImm _ | .orMHlMIx | .orMHlMIy | .cpAMIxDd _ | .cpAMIyDd _
  | .cpAMIxL | .cpAMIyL | .cpMHlA | .cpMHlImm _ | .cpMHlMIx | .cpMHlMIy | .xorAMIxDd _ | .xorAMIyDd _
  | .xorAMIxL | .xorAMIyL | .xorMHlA | .xorMHlImm _ | .xorMHlMIx | .xorMHlMIy | .ldAMIxDd _ | .ldAMIyDd _
  | .ldAMIxL | .ldAMIyL | .ldMIxDdA _ | .ldMIyDdA _ | .ldMIxLA | .ldMIyLA | .ldBMIxDd _ | .ldBMIyDd _
  | .ldBMIxL | .ldBMIyL | .ldMIxDdB _ | .ldMIyDdB _ | .ldMIxLB | .ldMIyLB | .ldLMIxDd _ | .ldLMIyDd _
  | .ldLMIxL | .ldLMIyL | .ldMIxDdL _ | .ldMIyDdL _ | .ldMIxLL | .ldMIyLL | .ldHMIxDd _ | .ldHMIyDd _
  | .ldHMIxL | .ldHMIyL | .ldMIxDdH _ | .ldMIyDdH _ | .ldMIxLH | .ldMIyLH | .ldMHlMIxDd _ | .ldMHlMIyDd _
  | .ldMHlMIxL | .ldMHlMIyL | .ldMIxMIxDd _ | .ldMIxMIyDd _ | .ldMIxMIxL | .ldMIxMIyL | .ldMIyMIxDd _
  | .ldMIyMIyDd _ | .ldMIyMIxL | .ldMIyMIyL | .slaA | .slaB | .slaMBr _ | .slaMHl | .sllA | .sllB | .sllMBr _
  | .sllMHl | .sraA | .sraB | .sraMBr _ | .sraMHl | .srlA | .srlB | .srlMBr _ | .srlMHl | .rlA | .rlB
  | .rlMBr _ | .rlMHl | .rlcA | .rlcB | .rlcMBr _ | .rlcMHl | .rrA | .rrB | .rrMBr _ | .rrMHl | .rrcA | .rrcB
  | .rrcMBr _ | .rrcMHl | .cplA | .cplB | .cplMBr _ | .cplMHl | .negA | .negB | .negMBr _ | .negMHl | .sep
  | .halt | .slp | .andBImm _ | .andLImm _ | .andHImm _ | .orBImm _ | .orLImm _ | .orHImm _ | .xorBImm _
  | .xorLImm _ | .xorHImm _ | .cpBImm _ | .cpLImm _ | .cpHImm _ | .cpBrImm _ | .ldABr | .ldASc | .ldBrA
  | .ldScA | .ldAMAbs _ | .ldBMAbs _ | .ldLMAbs _ | .ldHMAbs _ | .ldMAbsA _ | .ldMAbsB _ | .ldMAbsL _
  | .ldMAbsH _ | .jrsLt _ | .jrsLe _ | .jrsGt _ | .jrsGe _ | .jrsV _ | .jrsNv _ | .jrsP _ | .jrsM _
  | .jrsF0 _ | .jrsF1 _ | .jrsF2 _ | .jrsF3 _ | .jrsNf0 _ | .jrsNf1 _ | .jrsNf2 _ | .jrsNf3 _ | .carsLt _
  | .carsLe _ | .carsGt _ | .carsGe _ | .carsV _ | .carsNv _ | .carsP _ | .carsM _ | .carsF0 _ | .carsF1 _
  | .carsF2 _ | .carsF3 _ | .carsNf0 _ | .carsNf1 _ | .carsNf2 _ | .carsNf3 _ | .addBaBa | .addBaHl
  | .addBaIx | .addBaIy | .adcBaBa | .adcBaHl | .adcBaIx | .adcBaIy | .subBaBa | .subBaHl | .subBaIx
  | .subBaIy | .sbcBaBa | .sbcBaHl | .sbcBaIx | .sbcBaIy | .cpBaBa | .cpBaHl | .cpBaIx | .cpBaIy | .addHlBa
  | .addHlHl | .addHlIx | .addHlIy | .adcHlBa | .adcHlHl | .adcHlIx | .adcHlIy | .subHlBa | .subHlHl
  | .subHlIx | .subHlIy | .sbcHlBa | .sbcHlHl | .sbcHlIx | .sbcHlIy | .cpHlBa | .cpHlHl | .cpHlIx | .cpHlIy
  | .addIxBa | .addIxHl | .addIyBa | .addIyHl | .addSpBa | .addSpHl | .subIxBa | .subIxHl | .subIyBa
  | .subIyHl | .subSpBa | .subSpHl | .cpSpBa | .cpSpHl | .adcBaImm _ | .adcHlImm _ | .sbcBaImm _
  | .sbcHlImm _ | .addSpImm _ | .subSpImm _ | .cpSpImm _ | .ldSpImm _ | .ldBaMSpDd _ | .ldHlMSpDd _
  | .ldIxMSpDd _ | .ldIyMSpDd _ | .ldMSpDdBa _ | .ldMSpDdHl _ | .ldMSpDdIx _ | .ldMSpDdIy _ | .ldSpMAbs _
  | .ldMAbsSp _ | .pushA | .pushB | .pushL | .pushH | .popA | .popB | .popL | .popH | .pushAll | .popAll
  | .ldBaMHl | .ldHlMHl | .ldIxMHl | .ldIyMHl | .ldMHlBa | .ldMHlHl | .ldMHlIx | .ldMHlIy | .ldBaMIx
  | .ldHlMIx | .ldIxMIx | .ldIyMIx | .ldMIxBa | .ldMIxHl | .ldMIxIx | .ldMIxIy | .ldBaMIy | .ldHlMIy
  | .ldIxMIy | .ldIyMIy | .ldMIyBa | .ldMIyHl | .ldMIyIx | .ldMIyIy | .ldBaBa | .ldBaHl | .ldBaIx | .ldBaIy
  | .ldHlBa | .ldHlHl | .ldHlIx | .ldHlIy | .ldIxBa | .ldIxHl | .ldIxIx | .ldIxIy | .ldIyBa | .ldIyHl
  | .ldIyIx | .ldIyIy | .ldSpBa | .ldSpHl | .ldSpIx | .ldSpIy | .ldHlSp | .ldHlPc | .ldBaSp | .ldBaPc
  | .ldIxSp | .ldIySp
      => .core

/-- Does the model have the unit? -/
def Need.metBy (m : CpuModel) : Need → Bool
  | .core => true
  | .mulDiv => m.hasMulDiv
  | .expansion => m.hasExpansion

/-- The instruction exists on the model; "cannot be used" otherwise (R123). -/
def WellFormed (m : CpuModel) (i : Instr) : Prop := i.need.metBy m = true

end Sys2Proof
end

