-- ==== Sys2Proof/Machine/Ops.lean ====
section
/-! DEFINITION. The named operations: how an operation ends, the setters of State, the bus cycle with what may come between two of them (R69, R704), memory bytes and words, address generation (R62 to R64), the stack (R65), branches and calls (R591 to R597), the vector field (R73), and taking an exception (R664), reset (R701) and the return beside it. -/

namespace Sys2Proof.Machine

/-- Why an operation ends early: a fault, with the state it leaves (R735), or SR going LOW between two of its bus cycles, with the state at that break-point (R704, D31). -/
inductive Stop where
  | fault (f : Fault)
  | reset (s : State)
deriving DecidableEq, Repr

/-- The state an operation ends early in. -/
def Stop.state : Stop → State
  | .fault f => f.state
  | .reset s => s

/-- What an operation gives: a value, or a reason to stop. -/
abbrev Result (α : Type) := Except Stop α

/-! Setters. -/

def State.setPc (s : State) (v : Word) : State := { s with pc := v }
def State.setSp (s : State) (v : Word) : State := { s with sp := v }
def State.setMem (s : State) (m : Memory) : State := { s with mem := m }
def State.setStatus (s : State) (v : Status) : State := { s with status := v }
def State.setNb (s : State) (v : Byte) : State := { s with nb := v }
def State.setCb (s : State) (v : Byte) : State := { s with cb := v }
def State.setNmiPending (s : State) (v : Bool) : State := { s with nmiPending := v }
def State.setZdivPending (s : State) (v : Bool) : State := { s with zdivPending := v }
def State.setIntHoldoff (s : State) (v : Bool) : State := { s with intHoldoff := v }
def State.setIackLow (s : State) (v : Bool) : State := { s with iackLow := v }
def State.setPins (s : State) (p : Pins) : State := { s with pins := p }
def State.setSchedule (s : State) (l : List Pins) : State := { s with schedule := l }
def State.setBus (s : State) (l : List BusCycle) : State := { s with bus := l }
def State.setTrace (s : State) (l : List BusEvent) : State := { s with trace := l }
def State.setFreeCount (s : State) (n : Nat) : State := { s with freeCount := n }

/-- Reset(), while SR is LOW (R701). The registers the spec leaves Undefined take the values of State.reset (log 1, log 2); memory, parameters, inputs and the bus are not the core's to reset (R703). -/
def resetAssert (s : State) : State :=
  let t := { State.reset with
    mem := s.mem, cfg := s.cfg, pins := s.pins, schedule := s.schedule, bus := s.bus, trace := s.trace,
    freeCount := s.freeCount }
  if s.cfg.model.hasExpansion then t
  else { t with nb := s.nb, cb := s.cb, ep := s.ep, xp := s.xp, yp := s.yp }

/-- The outcome of a meaning. A cut ends the step in the reset status: the byte writes before it stay, the later ones never happen (R704). -/
def conclude : Result State → Host.Outcome State Fault Refusal
  | .ok t => .next t
  | .error (.fault f) => .fault f
  | .error (.reset u) => .next (resetAssert u)

/-! Memory. -/

/-- The byte an address holds; an unlisted address holds no value (U7, log 4). -/
def Memory.byteAt : Memory → Nat → Option Byte
  | [], _ => none
  | (k, v) :: m, a => if a = k then some v else Memory.byteAt m a

/-- Put a byte at an address, keeping the addresses strictly rising. -/
def Memory.store : Memory → Nat → Byte → Memory
  | [], a, v => [(a, v)]
  | (k, w) :: m, a, v =>
    if a < k then (a, v) :: (k, w) :: m
    else if a = k then (a, v) :: m
    else (k, w) :: Memory.store m a v

/-- Addresses rise strictly from `lo` and stay below 2^24 (R60). -/
def Memory.risingFrom : Nat → Memory → Bool
  | _, [] => true
  | lo, (k, _) :: m => decide (lo ≤ k) && decide (k < 2 ^ 24) && Memory.risingFrom (k + 1) m

/-- The canonical form of memory. An unlisted address reads as no value, so no entry can equal what it reads as. -/
def Memory.wf (m : Memory) : Bool := Memory.risingFrom 0 m

/-- Does a region contain an address? -/
def Region.contains (r : Region) (a : Nat) : Bool := decide (r.base ≤ a) && decide (a < r.base + r.size)

/-- The kind of an address: the first region of the map that contains it, `nothing` outside all of them (D8). -/
def mapKind : List Region → Nat → RegionKind
  | [], _ => .nothing
  | r :: rest, a => if Region.contains r a then r.kind else mapKind rest a

/-- The kind of a physical address on this device. -/
def State.kindAt (s : State) (a : Addr) : RegionKind := mapKind s.cfg.memoryMap a.toNat

/-- An access takes its place in the order of all byte accesses (R76). -/
def State.record (s : State) (e : BusEvent) : State := s.setTrace (e :: s.trace)

/-- What the addressed memory does with a byte: RAM and write-only memory take it; ROM and absent addresses ignore it (D8, U9); a device gets it through the trace (R74, log 5). -/
def State.hold (s : State) (a : Addr) (v : Byte) : State :=
  match s.kindAt a with
  | .ram => s.setMem (s.mem.store a.toNat v)
  | .writeOnly => s.setMem (s.mem.store a.toNat v)
  | .rom => s
  | .nothing => s
  | .io => s

/-- The byte an I/O read gets: the one the outside supplies for it, else the device function's (D8, log 5). -/
def deviceByte (s : State) (data : Option Byte) (a : Addr) : Byte := data.getD (Config.device s.trace a)

/-- The byte a read finds, if it finds one: RAM and ROM hold it, a device answers, write-only and absent addresses give none (U9). -/
def State.found (s : State) (data : Option Byte) (a : Addr) : Option Byte :=
  match s.kindAt a with
  | .ram => s.mem.byteAt a.toNat
  | .rom => s.mem.byteAt a.toNat
  | .io => some (deviceByte s data a)
  | .writeOnly => none
  | .nothing => none

/-- Why a read that finds no byte stops (U7, U9): behind its break-point, in the state given. A read of an I/O address always finds one. -/
def State.readFault (s : State) (a : Addr) : Fault :=
  match s.kindAt a with
  | .ram => .unwrittenByte a s
  | .rom => .unwrittenByte a s
  | .io => .unwrittenByte a s
  | .writeOnly => .unreadable a s
  | .nothing => .unreadable a s

/-- One access of the external bus master (R716): it reads and writes memory and devices directly, and a read of nothing is no fault of the program (log 19). DESIGN CHOICE (log 19, log 34): the access is taken at its 24-bit address on every model. On MODEL0/1, whose space has 2^16 bytes (R60), the spec does not say what a bus master's access above 00FFFFH does; here the memory map says what stands there, and a write may store. -/
def masterAccess (s : State) : MasterAccess → State
  | .read a => s.record (.masterRead a (s.found none a))
  | .write a v => (s.hold a v).record (.masterWrite a v)

/-- The break-point before a memory access of the CPU (R69, R716): the bus master's accesses, then a reset if SR goes LOW there (R704, D31); the byte that a device puts on the data bus goes on to the access. -/
def busCycle (s : State) : Result (State × Option Byte) :=
  match s.bus with
  | [] => .ok (s, none)
  | c :: rest =>
    let t := c.master.foldl masterAccess (s.setBus rest)
    if c.cut then .error (.reset t) else .ok (t, c.data)

/-- MemRead(pa, 1) (R12, R70): one bus cycle. -/
def readByte (s : State) (a : Addr) : Result (Byte × State) := do
  let (t, data) ← busCycle s
  match t.found data a with
  | some v => .ok (v, t.record (.read a v))
  | none => .error (.fault (t.readFault a))

/-- MemWrite(pa, 1, v) (R12): one bus cycle. -/
def writeByte (s : State) (a : Addr) (v : Byte) : Result State := do
  let (t, _) ← busCycle s
  .ok ((t.hold a v).record (.write a v))

/-- The bus master can act no more in this step (R671, D6): its accesses are struck from the break-points. -/
def BusCycle.withoutMaster (c : BusCycle) : BusCycle := { c with master := [] }

/-- The whole of what follows is closed to the bus master: the reset sequence and SLEEP (D6). -/
def sealBus (s : State) : State := s.setBus (s.bus.map BusCycle.withoutMaster)

/-- Closed to the bus master from behind the first break-point on. -/
def sealRest (s : State) : State :=
  match s.bus with
  | [] => s
  | c :: rest => s.setBus (c :: rest.map BusCycle.withoutMaster)

/-- The exception entry that follows is closed to the bus master (R671, D6). The break-point before its first access lies behind the instruction it follows and is still open; but where it follows another entry (R656), IACK is LOW there already. -/
def lockBus (s : State) : State := if s.iackLow then sealBus s else sealRest s

/-! Address generation. -/

/-- DataAddr(page, a) (R62); MODEL0 and MODEL1 have no page (D9). -/
def dataAddr (s : State) (page : Byte) (a : Word) : Addr :=
  if s.cfg.model.hasExpansion then page ++ a else a.setWidth 24

/-- ProgAddr(a) (R63): bit 23 is 0, bits 22 to 15 the bank (0 in the common area, CB in the bank area). -/
def progAddr (s : State) (a : Word) : Addr :=
  if s.cfg.model.hasExpansion then
    if a.getLsbD 15 then 0#1 ++ s.cb ++ a.extractLsb' 0 15
    else 0#1 ++ 0x00#8 ++ a.extractLsb' 0 15
  else a.setWidth 24

/-- MemRead(pa, 2) at an offset of a page (R66): low byte first, the second byte at offset + 1 modulo 2^16 of the same page (D3, log 16). -/
def readWord (s : State) (page : Byte) (a : Word) : Result (Word × State) := do
  let (lo, t) ← readByte s (dataAddr s page a)
  let (hi, u) ← readByte t (dataAddr t page (a + 1#16))
  .ok (pair hi lo, u)

/-- MemWrite(pa, 2, v) (R66). -/
def writeWord (s : State) (page : Byte) (a : Word) (v : Word) : Result State := do
  let t ← writeByte s (dataAddr s page a) (loByte v)
  writeByte t (dataAddr t page (a + 1#16)) (hiByte v)

/-- The vector at offset `kk` of the vector field: page 0 fixed, FFH continues at 000100H (R73). -/
def readVector (s : State) (kk : Byte) : Result (Word × State) := readWord s 0x00#8 (pair 0x00#8 kk)

/-! The stack. -/

/-- StackAddr(a) (R64). -/
def stackAddr (s : State) (a : Word) : Addr := dataAddr s s.cfg.spp a

/-- Push8 (R65): SP modulo 2^16, the page stays SPP (D28, log 16). -/
def push8 (v : Byte) (s : State) : Result State :=
  let t := s.setSp (s.sp - 1#16)
  writeByte t (stackAddr t t.sp) v

/-- Pop8 (R65). -/
def pop8 (s : State) : Result (Byte × State) := do
  let (v, t) ← readByte s (stackAddr s s.sp)
  .ok (v, t.setSp (t.sp + 1#16))

/-- Push a 16-bit value, upper byte first (R66, R552). -/
def push16 (v : Word) (s : State) : Result State := do
  let t ← push8 (hiByte v) s
  push8 (loByte v) t

/-- Pop a 16-bit value, lower byte first (R560). -/
def pop16 (s : State) : Result (Word × State) := do
  let (lo, t) ← pop8 s
  let (hi, u) ← pop8 t
  .ok (pair hi lo, u)

/-! Branches. -/

/-- CB ← NB on MODEL2 and MODEL3; MODEL0 and MODEL1 have neither (R44, R591). -/
def loadBank (s : State) : State := if s.cfg.model.hasExpansion then s.setCb s.nb else s

/-- NB ← CB on MODEL2 and MODEL3 (R592). -/
def keepBank (s : State) : State := if s.cfg.model.hasExpansion then s.setNb s.cb else s

/-- Branch(target) (R591). -/
def branch (target : Word) (s : State) : State := loadBank (s.setPc target)

/-- NoBranch() (R592): PC is already `pc_next`. -/
def noBranch (s : State) : State := keepBank s

/-- CallPush(ret) (R596): the return address is the PC of the state, CB first in the maximum mode. -/
def callPush (s : State) : Result State :=
  if s.cfg.maxMode then do
    let t ← push8 s.cb s
    push16 t.pc t
  else push16 s.pc s

/-- RetPop() (R597). -/
def retPop (s : State) : Result State := do
  let (ret, t) ← pop16 s
  let t := t.setPc ret
  if s.cfg.maxMode then do
    let (bank, u) ← pop8 t
    .ok ((u.setCb bank).setNb bank)
  else .ok t

/-! Exceptions. -/

/-- The exception processing factors taken by the shared entry (R664): reset has its own sequence, INT its own rule. -/
inductive Factor where
  | zeroDivision | nmi | irq3 | irq2 | irq1
deriving DecidableEq, Repr

/-- The vector address of a factor, an offset of the vector field (R651, R658). -/
def Factor.vector (f : Factor) (s : State) : Byte :=
  match f with
  | .zeroDivision => 0x02#8
  | .nmi => 0x04#8
  | .irq3 => s.pins.vector3
  | .irq2 => s.pins.vector2
  | .irq1 => s.pins.vector1

/-- I1 and I0 after acceptance (R660); zero division leaves them (D17, log 13). -/
def Factor.mask (f : Factor) (s : State) : State :=
  match f with
  | .zeroDivision => s
  | .nmi => (s.setFlag .i1 true).setFlag .i0 true
  | .irq3 => (s.setFlag .i1 true).setFlag .i0 true
  | .irq2 => (s.setFlag .i1 true).setFlag .i0 false
  | .irq1 => (s.setFlag .i1 false).setFlag .i0 true

/-- The exception frame: CB in the maximum mode, PC, then SC (R664, R670). -/
def pushFrame (s : State) : Result State := do
  let t ← callPush s
  push8 t.sc t

/-- Into exception processing: the status (R664), and IACK LOW (R671, R719) until a sampling point takes nothing. -/
def acknowledge (s : State) : State := (s.setStatus .exception).setIackLow true

/-- ExceptionEntry (R664): with the bus locked and IACK LOW (R671), in the exception processing status, frame, mask, vector, CB ← NB (D18, log 15). The sampling after it (R656) is the next step's. -/
def exceptionEntry (f : Factor) (s : State) : Result State := do
  let t ← pushFrame (acknowledge (lockBus s))
  let t := f.mask t
  let (v, u) ← readVector t (f.vector t)
  .ok ((branch v u).setStatus .run)

/-- The return from an exception, RETE (R613, R665): SC, then PC and in the maximum mode CB. -/
def exceptionReturn (s : State) : Result State := do
  let (sc, t) ← pop8 s
  retPop (t.setSc sc)

/-- ResetRelease() (R701): the vector at 000000H, CB ← NB, nothing pushed; IACK is LOW (R719), the bus master does not act in it (D6). -/
def resetRelease (s : State) : Result State := do
  let (v, t) ← readVector (acknowledge (sealBus s)) 0x00#8
  .ok ((branch v t).setStatus .run)

/-- An instruction of a unit that the CPU model lacks stops: without multiplication and division by U3, without the expansion registers by U4. -/
def requires (n : Need) (s : State) (r : Result State) : Result State :=
  match n with
  | .core => r
  | .mulDiv => if s.cfg.model.hasMulDiv then r else .error (.fault (.noMulDiv s))
  | .expansion => if s.cfg.model.hasExpansion then r else .error (.fault (.noExpansion s))

end Sys2Proof.Machine
end

