-- ==== Sys2Proof/Machine/Fetch.lean ====
section
/-! DEFINITION. Fetching and running one instruction (R27, R63, R100, R123), the hold-off it may start (R661), the overlapped fetch (U10), and placing instruction bytes where the next fetch reads them. -/

namespace Sys2Proof.Machine

/-- Read the bytes of the instruction from logical address `a` on, each at ProgAddr of its own address (R63) and no more than the instruction has, `got` being those already read. A byte that cannot be read stops (U7, U9), an unassigned op-code is a fault (U1). The longest instruction has four bytes (R100). -/
def fetchFrom : Nat → List Byte → Word → State → Result (Instr × State)
  | 0, _, _, s => .error (.fault (.undefinedOpcode s))
  | n + 1, got, a, s => do
    let (b, t) ← readByte s (progAddr s a)
    match decode (got ++ [b]) with
    | .ok (i, _) => .ok (i, t)
    | .error .truncated => fetchFrom n (got ++ [b]) (a + 1#16) t
    | .error (.undefinedFirst _) => .error (.fault (.undefinedOpcode t))
    | .error (.undefinedAfterCE _) => .error (.fault (.undefinedOpcode t))
    | .error (.undefinedAfterCF _) => .error (.fault (.undefinedOpcode t))

/-- The instruction at PC, and the state after its bytes are read. -/
def fetchInstr (s : State) : Result (Instr × State) := fetchFrom 4 [] s.pc s

/-- Past the bytes of `i` (R27): PC = `pc_next`, the state a meaning sees (log 32); the free values move on (log 9). -/
def advance (i : Instr) (s : State) : State :=
  (s.setPc (s.pc + BitVec.ofNat 16 (lengthOf i))).setFreeCount (s.freeCount + 1)

/-- Do the accesses of the list, the oldest first, store over address `a`, which holds `held`, a byte that differs from the one already there (U10)? Only the CPU's stores count. DESIGN CHOICE (log 18): where the byte held no value before (`none`, U7), U10 does not say whether the stored byte differs; here every store over it counts as differing. -/
def storesOver (a : Addr) : Option Byte → List BusEvent → Bool
  | _, [] => false
  | held, .read _ _ :: l => storesOver a held l
  | held, .masterRead _ _ :: l => storesOver a held l
  | held, .masterWrite b v :: l => storesOver a (if b = a then some v else held) l
  | held, .write b v :: l =>
    if b = a then decide (held ≠ some v) || storesOver a (some v) l else storesOver a held l

/-- The accesses between `s` and `t`, the oldest first. -/
def eventsBetween (s t : State) : List BusEvent := (t.trace.take (t.trace.length - s.trace.length)).reverse

/-- Does the next fetch go on sequentially from `s`, whose PC is `pc_next`, at a byte of RAM that instruction `i` changed by a store of its own (U10, log 18)? DIV stores nothing: what its step writes is the frame of the zero division, pushed by the exception entry behind it (R652). -/
def overlapped (i : Instr) (s t : State) : Bool :=
  decide (i ≠ .div) && decide (progAddr t t.pc = progAddr s s.pc) && decide (s.kindAt (progAddr s s.pc) = .ram) &&
    storesOver (progAddr s s.pc) (s.mem.byteAt (progAddr s s.pc).toNat) (eventsBetween s t)

/-- The end of instruction `i`, which took `s` to `t`: after a reset in its midst nothing more (R704); else the hold-off if `i` is in HOLDOFF_SET (R661), then the fault of U10 at the overlapped fetch. -/
def finish (i : Instr) (s t : State) : Result State :=
  if t.status = .reset then .ok t
  else
    let u := if opcodeOf i ∈ s.cfg.holdoffSet then t.setIntHoldoff true else t
    if overlapped i s t then .error (.fault (.overlappedStore (progAddr s s.pc) u)) else .ok u

/-- Fetch, decode and run the instruction at PC. -/
def runInstruction (meaning : Instr → State → Host.Outcome State Fault Refusal) (s : State) :
    Host.Outcome State Fault Refusal :=
  match fetchInstr s with
  | .error e => conclude (.error e)
  | .ok (i, u) =>
    match meaning i (advance i u) with
    | .next t => conclude (finish i (advance i u) t)
    | .fault r => .fault r
    | .refused r => .refused r

/-- Put bytes at the logical addresses from `a` on, whatever stands there (a loader's writes, log 2). -/
def placeBytes (s : State) : List Byte → Word → State
  | [], _ => s
  | b :: bs, a => placeBytes (s.setMem (s.mem.store (progAddr s a).toNat b)) bs (a + 1#16)

end Sys2Proof.Machine
end

