-- ==== Sys2Proof/Machine/Boundary.lean ====
section
/-! DEFINITION. What happens at an instruction boundary: sampling the inputs (R736), reset (R701), accepting an exception (R655), bus release (R716), and the standby statuses (R717, R718). -/

namespace Sys2Proof.Machine

/-- The inputs of this step: the next entry of the schedule; when it is empty the levels stay, no new edge comes and the bus master does nothing (log 22). The bus takes over what comes with this step's memory accesses. -/
def samplePins (s : State) : State :=
  match s.schedule with
  | [] => (s.setPins { s.pins with nmiEdge := false, master := [], cycles := [] }).setBus []
  | p :: rest => ((s.setPins p).setSchedule rest).setBus p.cycles

/-- A falling NMI edge is latched (R653, D23, log 23). -/
def latchNmi (s : State) : State := if s.pins.nmiEdge then s.setNmiPending true else s

/-- Sample the inputs and latch the edge. -/
def latchInputs (s : State) : State := latchNmi (samplePins s)

/-- The bus master's accesses while it owns the bus at this point, in order (R716). -/
def busMaster (s : State) : State := s.pins.master.foldl masterAccess s

/-- The factor a sampling point takes (R655): zero division before all; the hold-off (R661) and IMASK (R662) stop the interrupts; then NMI, IRQ3, IRQ2, IRQ1 against the mask (R659). -/
def pendingFactor (s : State) : Option Factor :=
  if s.zdivPending then some .zeroDivision
  else if s.intHoldoff then none
  else if s.pins.imaskLow then none
  else if s.nmiPending then some .nmi
  else if s.pins.irq3Low && decide (s.level < 3) then some .irq3
  else if s.pins.irq2Low && decide (s.level < 2) then some .irq2
  else if s.pins.irq1Low && decide (s.level < 1) then some .irq1
  else none

/-- Acceptance clears the latch of the factor (R45, R655). -/
def clearLatch (f : Factor) (s : State) : State :=
  match f with
  | .zeroDivision => s.setZdivPending false
  | .nmi => s.setNmiPending false
  | .irq3 => s
  | .irq2 => s
  | .irq1 => s

/-- Accept a factor: clear its latch and enter (R655, R664). -/
def accept (f : Factor) (s : State) : Host.Outcome State Fault Refusal :=
  conclude (exceptionEntry f (clearLatch f s))

/-- A sampling point that takes nothing uses up the hold-off (R655), and IACK is HIGH again (R719). -/
def idlePoint (s : State) : State := (s.setIntHoldoff false).setIackLow false

/-- HALT and SLEEP with no factor to take: the CPU stays stopped (R717, R718, D21, log 25). -/
def wait (s : State) : Host.Outcome State Fault Refusal := .next (idlePoint s)

/-- Into the bus authority release status (R716): the sampling point has taken nothing, IACK is HIGH. -/
def releaseBus (fromHalt : Bool) (s : State) : Host.Outcome State Fault Refusal :=
  .next (((busMaster s).setIackLow false).setStatus (.busReleased fromHalt))

/-- One step after the inputs are sampled. SR LOW comes before everything (R701); then the status says what the CPU does (R702). The factors are looked at before BREQ, so that after an entry R656 samples before the bus can be released (log 19). Inside an instruction the bus is released by what comes with its memory accesses (`busCycle`). -/
def boundary (meaning : Instr → State → Host.Outcome State Fault Refusal) (s : State) :
    Host.Outcome State Fault Refusal :=
  if s.pins.srLow then .next (resetAssert s)
  else
    match s.status with
    | .reset => conclude (resetRelease s)
    | .exception => .next (s.setStatus .run)
    | .busReleased fromHalt =>
      if s.pins.breqLow then .next (busMaster s)
      else .next (s.setStatus (if fromHalt then .halt else .run))
    | .run =>
      match pendingFactor s with
      | some f => accept f s
      | none =>
        if s.pins.breqLow then releaseBus false s else runInstruction meaning (idlePoint s)
    | .halt =>
      match pendingFactor s with
      | some f => accept f s
      | none => if s.pins.breqLow then releaseBus true s else wait s
    | .sleep =>
      match pendingFactor s with
      | some f => accept f (sealBus s)
      | none => wait s

/-- STOP is LOW in HALT, SLEEP and while the bus is released (R719). -/
def stopLow (s : State) : Bool :=
  match s.status with
  | .halt => true
  | .sleep => true
  | .busReleased _ => true
  | .reset => false
  | .run => false
  | .exception => false

/-- BACK is LOW while the bus is released (R719). -/
def backLow (s : State) : Bool :=
  match s.status with
  | .busReleased _ => true
  | .halt => false
  | .sleep => false
  | .reset => false
  | .run => false
  | .exception => false

/-- IACK is LOW (R719): in the exception processing of interrupts, reset and zero division. -/
def iackOutLow (s : State) : Bool := s.iackLow

/-- The outputs I1F and I0F show I1 and I0 (R671, R719). -/
def i1Out (s : State) : Bool := s.flag .i1

/-- See `i1Out`. -/
def i0Out (s : State) : Bool := s.flag .i0

end Sys2Proof.Machine
end

