-- ==== Sys2Proof/Machine/Operands.lean ====
section
/-! DEFINITION. The operand forms: the registers by name (R20, R26), the effective addresses of the addressing modes (R107 to R117), and reading and writing an operand of 8 or 16 bits. -/

namespace Sys2Proof.Machine

/-- BA = B ++ A (R21). -/
def State.ba (s : State) : Word := pair s.b s.a

/-- HL = H ++ L (R22). -/
def State.hl (s : State) : Word := pair s.h s.l

/-- The 8-bit registers an instruction names (R109). -/
inductive Reg8 where
  | a | b | l | h | br | sc | nb | ep | xp | yp
deriving DecidableEq, Repr

/-- Read an 8-bit register. -/
def State.get8 (s : State) : Reg8 → Byte
  | .a => s.a
  | .b => s.b
  | .l => s.l
  | .h => s.h
  | .br => s.br
  | .sc => s.sc
  | .nb => s.nb
  | .ep => s.ep
  | .xp => s.xp
  | .yp => s.yp

/-- Write an 8-bit register; SC takes all eight flags (R29). -/
def State.set8 (s : State) (r : Reg8) (v : Byte) : State :=
  match r with
  | .a => { s with a := v }
  | .b => { s with b := v }
  | .l => { s with l := v }
  | .h => { s with h := v }
  | .br => { s with br := v }
  | .sc => s.setSc v
  | .nb => s.setNb v
  | .ep => { s with ep := v }
  | .xp => { s with xp := v }
  | .yp => { s with yp := v }

/-- The 16-bit registers an instruction names (R109). PC is only read (R390). -/
inductive Reg16 where
  | ba | hl | ix | iy | sp
deriving DecidableEq, Repr

/-- Read a 16-bit register. -/
def State.get16 (s : State) : Reg16 → Word
  | .ba => s.ba
  | .hl => s.hl
  | .ix => s.ix
  | .iy => s.iy
  | .sp => s.sp

/-- Write a 16-bit register: BA and HL are written by halves (R12). -/
def State.set16 (s : State) (r : Reg16) (v : Word) : State :=
  match r with
  | .ba => { s with b := hiByte v, a := loByte v }
  | .hl => { s with h := hiByte v, l := loByte v }
  | .ix => { s with ix := v }
  | .iy => { s with iy := v }
  | .sp => s.setSp v

/-- The data memory operands (R110 to R113). -/
inductive MemOp where
  /-- [HL] -/
  | hl
  /-- [IX] -/
  | ix
  /-- [IY] -/
  | iy
  /-- [BR:ll] -/
  | br (ll : Byte)
  /-- [hhll] -/
  | abs (hhll : Word)
  /-- [IX+dd] -/
  | ixd (dd : Byte)
  /-- [IY+dd] -/
  | iyd (dd : Byte)
  /-- [IX+L] -/
  | ixl
  /-- [IY+L] -/
  | iyl
  /-- [SP+dd] -/
  | spd (dd : Byte)
deriving DecidableEq, Repr

/-- The page register of an operand: EP, XP, YP or the stack page (R62, R111). -/
def MemOp.page (s : State) : MemOp → Byte
  | .hl => s.ep
  | .ix => s.xp
  | .iy => s.yp
  | .br _ => s.ep
  | .abs _ => s.ep
  | .ixd _ => s.xp
  | .iyd _ => s.yp
  | .ixl => s.xp
  | .iyl => s.yp
  | .spd _ => s.cfg.spp

/-- The in-page address of an operand; sums are modulo 2^16 (R72, D2, log 16). -/
def MemOp.offset (s : State) : MemOp → Word
  | .hl => s.hl
  | .ix => s.ix
  | .iy => s.iy
  | .br ll => pair s.br ll
  | .abs hhll => hhll
  | .ixd dd => s.ix + sext16 dd
  | .iyd dd => s.iy + sext16 dd
  | .ixl => s.ix + sext16 s.l
  | .iyl => s.iy + sext16 s.l
  | .spd dd => s.sp + sext16 dd

/-- EA (R110 to R113): the physical address of the operand's (lower) byte. -/
def MemOp.ea (s : State) (m : MemOp) : Addr := dataAddr s (m.page s) (m.offset s)

/-- An 8-bit operand that can be written. -/
inductive Loc8 where
  | reg (r : Reg8)
  | mem (m : MemOp)
deriving DecidableEq, Repr

/-- An 8-bit source operand. -/
inductive Src8 where
  | reg (r : Reg8)
  | mem (m : MemOp)
  | imm (n : Byte)
deriving DecidableEq, Repr

/-- Read a location: the value, and the state after the bus cycle if there is one. -/
def Loc8.read (s : State) : Loc8 → Result (Byte × State)
  | .reg r => .ok (s.get8 r, s)
  | .mem m => readByte s (m.ea s)

/-- Write a location. -/
def Loc8.write (v : Byte) (s : State) : Loc8 → Result State
  | .reg r => .ok (s.set8 r v)
  | .mem m => writeByte s (m.ea s) v

/-- Read a source: the value, and the state after the bus cycles if there are any. -/
def Src8.read (s : State) : Src8 → Result (Byte × State)
  | .reg r => .ok (s.get8 r, s)
  | .mem m => readByte s (m.ea s)
  | .imm n => .ok (n, s)

/-- A 16-bit operand that can be written. -/
inductive Loc16 where
  | reg (r : Reg16)
  | mem (m : MemOp)
deriving DecidableEq, Repr

/-- A 16-bit source operand. `pc` gives `pc0 + 2` to the two-byte LD BA,PC and LD HL,PC (R392, R394): the PC of a state while it executes (log 32). -/
inductive Src16 where
  | reg (r : Reg16)
  | mem (m : MemOp)
  | imm (n : Word)
  | pc
deriving DecidableEq, Repr

/-- Write a location. -/
def Loc16.write (v : Word) (s : State) : Loc16 → Result State
  | .reg r => .ok (s.set16 r v)
  | .mem m => writeWord s (m.page s) (m.offset s) v

/-- Read a source: the value, and the state after the bus cycles if there are any. -/
def Src16.read (s : State) : Src16 → Result (Word × State)
  | .reg r => .ok (s.get16 r, s)
  | .mem m => readWord s (m.page s) (m.offset s)
  | .imm n => .ok (n, s)
  | .pc => .ok (s.pc, s)

/-- The conditions of branches (R593). -/
inductive Cond where
  /-- Unconditional forms. -/
  | always
  | c | nc | z | nz
  | lt | le | gt | ge | v | nv | p | m
  | f0 | f1 | f2 | f3 | nf0 | nf1 | nf2 | nf3
deriving DecidableEq, Repr

/-- When a condition holds (R593); F0 to F3 are the inputs sampled for this step (D12, log 21). -/
def Cond.holds (s : State) : Cond → Bool
  | .always => true
  | .c => s.flag .c
  | .nc => !s.flag .c
  | .z => s.flag .z
  | .nz => !s.flag .z
  | .lt => s.flag .n ^^ s.flag .v
  | .le => s.flag .z || (s.flag .n ^^ s.flag .v)
  | .gt => !(s.flag .z || (s.flag .n ^^ s.flag .v))
  | .ge => !(s.flag .n ^^ s.flag .v)
  | .v => s.flag .v
  | .nv => !s.flag .v
  | .p => !s.flag .n
  | .m => s.flag .n
  | .f0 => s.pins.f.getLsbD 0
  | .f1 => s.pins.f.getLsbD 1
  | .f2 => s.pins.f.getLsbD 2
  | .f3 => s.pins.f.getLsbD 3
  | .nf0 => !s.pins.f.getLsbD 0
  | .nf1 => !s.pins.f.getLsbD 1
  | .nf2 => !s.pins.f.getLsbD 2
  | .nf3 => !s.pins.f.getLsbD 3

/-- Rel8 and Rel16 (R594, R116): relative to the last byte of the instruction, `pc_next - 1 + offset` modulo 2^16. -/
def relTarget (s : State) (offset : Word) : Word := s.pc - 1#16 + offset

end Sys2Proof.Machine
end

