-- ==== Sys2Proof/Machine/Arith16.lean ====
section
/-! DEFINITION. 16-bit arithmetic (spec/44_arith16.md): ADD, ADC, SUB, SBC, CP, INC, DEC on BA, HL, IX, IY, SP. D and U are ignored. The shared operations first, then one meaning per instruction. A meaning sees PC = `pc_next` (log 32). -/

namespace Sys2Proof.Machine

/-- ADD, ADC, SUB, SBC of 16 bits (R440): N V C Z written. -/
def arith16 (op : ArithOp) (dst : Reg16) (src : Src16) (s : State) : Result State := do
  let (b, s1) ← src.read s
  let r := op.on16 s1 (s1.get16 dst) b
  .ok ((s1.set16 dst r.value).setNVCZ r)

/-- CP of 16 bits (R470 to R477): nothing written but N V C Z. -/
def compare16 (dst : Reg16) (src : Src16) (s : State) : Result State := do
  let (b, s1) ← src.read s
  .ok (s1.setNVCZ (subBits (s1.get16 dst) b false))

/-- INC of 16 bits: modulo 65536, Z only (R478, R479). -/
def inc16 (r : Reg16) (s : State) : Result State :=
  let v := s.get16 r + 1#16
  .ok ((s.set16 r v).setFlag .z (v == 0#16))

/-- DEC of 16 bits: modulo 65536, Z only (R480, R481). -/
def dec16 (r : Reg16) (s : State) : Result State :=
  let v := s.get16 r - 1#16
  .ok ((s.set16 r v).setFlag .z (v == 0#16))

/-- INC SP (R479). -/
def execIncSp (s : State) : Host.Outcome State Fault Refusal :=
  conclude (inc16 .sp s)

/-- DEC SP (R481). -/
def execDecSp (s : State) : Host.Outcome State Fault Refusal :=
  conclude (dec16 .sp s)

/-- INC BA (R478). -/
def execIncBa (s : State) : Host.Outcome State Fault Refusal :=
  conclude (inc16 .ba s)

/-- INC HL (R478). -/
def execIncHl (s : State) : Host.Outcome State Fault Refusal :=
  conclude (inc16 .hl s)

/-- INC IX (R478). -/
def execIncIx (s : State) : Host.Outcome State Fault Refusal :=
  conclude (inc16 .ix s)

/-- INC IY (R478). -/
def execIncIy (s : State) : Host.Outcome State Fault Refusal :=
  conclude (inc16 .iy s)

/-- DEC BA (R480). -/
def execDecBa (s : State) : Host.Outcome State Fault Refusal :=
  conclude (dec16 .ba s)

/-- DEC HL (R480). -/
def execDecHl (s : State) : Host.Outcome State Fault Refusal :=
  conclude (dec16 .hl s)

/-- DEC IX (R480). -/
def execDecIx (s : State) : Host.Outcome State Fault Refusal :=
  conclude (dec16 .ix s)

/-- DEC IY (R480). -/
def execDecIy (s : State) : Host.Outcome State Fault Refusal :=
  conclude (dec16 .iy s)

/-- ADD BA,#mmnn (R443). -/
def execAddBaImm (mmnn : Word) (s : State) : Host.Outcome State Fault Refusal :=
  conclude (arith16 .add .ba (.imm mmnn) s)

/-- ADD HL,#mmnn (R445). -/
def execAddHlImm (mmnn : Word) (s : State) : Host.Outcome State Fault Refusal :=
  conclude (arith16 .add .hl (.imm mmnn) s)

/-- ADD IX,#mmnn (R447). -/
def execAddIxImm (mmnn : Word) (s : State) : Host.Outcome State Fault Refusal :=
  conclude (arith16 .add .ix (.imm mmnn) s)

/-- ADD IY,#mmnn (R449). -/
def execAddIyImm (mmnn : Word) (s : State) : Host.Outcome State Fault Refusal :=
  conclude (arith16 .add .iy (.imm mmnn) s)

/-- SUB BA,#mmnn (R457). -/
def execSubBaImm (mmnn : Word) (s : State) : Host.Outcome State Fault Refusal :=
  conclude (arith16 .sub .ba (.imm mmnn) s)

/-- SUB HL,#mmnn (R459). -/
def execSubHlImm (mmnn : Word) (s : State) : Host.Outcome State Fault Refusal :=
  conclude (arith16 .sub .hl (.imm mmnn) s)

/-- SUB IX,#mmnn (R461). -/
def execSubIxImm (mmnn : Word) (s : State) : Host.Outcome State Fault Refusal :=
  conclude (arith16 .sub .ix (.imm mmnn) s)

/-- SUB IY,#mmnn (R463). -/
def execSubIyImm (mmnn : Word) (s : State) : Host.Outcome State Fault Refusal :=
  conclude (arith16 .sub .iy (.imm mmnn) s)

/-- CP BA,#mmnn (R471). -/
def execCpBaImm (mmnn : Word) (s : State) : Host.Outcome State Fault Refusal :=
  conclude (compare16 .ba (.imm mmnn) s)

/-- CP HL,#mmnn (R473). -/
def execCpHlImm (mmnn : Word) (s : State) : Host.Outcome State Fault Refusal :=
  conclude (compare16 .hl (.imm mmnn) s)

/-- CP IX,#mmnn (R474). -/
def execCpIxImm (mmnn : Word) (s : State) : Host.Outcome State Fault Refusal :=
  conclude (compare16 .ix (.imm mmnn) s)

/-- CP IY,#mmnn (R475). -/
def execCpIyImm (mmnn : Word) (s : State) : Host.Outcome State Fault Refusal :=
  conclude (compare16 .iy (.imm mmnn) s)

/-- ADD BA,BA (R442). -/
def execAddBaBa (s : State) : Host.Outcome State Fault Refusal :=
  conclude (arith16 .add .ba (.reg .ba) s)

/-- ADD BA,HL (R442). -/
def execAddBaHl (s : State) : Host.Outcome State Fault Refusal :=
  conclude (arith16 .add .ba (.reg .hl) s)

/-- ADD BA,IX (R442). -/
def execAddBaIx (s : State) : Host.Outcome State Fault Refusal :=
  conclude (arith16 .add .ba (.reg .ix) s)

/-- ADD BA,IY (R442). -/
def execAddBaIy (s : State) : Host.Outcome State Fault Refusal :=
  conclude (arith16 .add .ba (.reg .iy) s)

/-- ADC BA,BA (R452). -/
def execAdcBaBa (s : State) : Host.Outcome State Fault Refusal :=
  conclude (arith16 .adc .ba (.reg .ba) s)

/-- ADC BA,HL (R452). -/
def execAdcBaHl (s : State) : Host.Outcome State Fault Refusal :=
  conclude (arith16 .adc .ba (.reg .hl) s)

/-- ADC BA,IX (R452). -/
def execAdcBaIx (s : State) : Host.Outcome State Fault Refusal :=
  conclude (arith16 .adc .ba (.reg .ix) s)

/-- ADC BA,IY (R452). -/
def execAdcBaIy (s : State) : Host.Outcome State Fault Refusal :=
  conclude (arith16 .adc .ba (.reg .iy) s)

/-- SUB BA,BA (R456). -/
def execSubBaBa (s : State) : Host.Outcome State Fault Refusal :=
  conclude (arith16 .sub .ba (.reg .ba) s)

/-- SUB BA,HL (R456). -/
def execSubBaHl (s : State) : Host.Outcome State Fault Refusal :=
  conclude (arith16 .sub .ba (.reg .hl) s)

/-- SUB BA,IX (R456). -/
def execSubBaIx (s : State) : Host.Outcome State Fault Refusal :=
  conclude (arith16 .sub .ba (.reg .ix) s)

/-- SUB BA,IY (R456). -/
def execSubBaIy (s : State) : Host.Outcome State Fault Refusal :=
  conclude (arith16 .sub .ba (.reg .iy) s)

/-- SBC BA,BA (R466). -/
def execSbcBaBa (s : State) : Host.Outcome State Fault Refusal :=
  conclude (arith16 .sbc .ba (.reg .ba) s)

/-- SBC BA,HL (R466). -/
def execSbcBaHl (s : State) : Host.Outcome State Fault Refusal :=
  conclude (arith16 .sbc .ba (.reg .hl) s)

/-- SBC BA,IX (R466). -/
def execSbcBaIx (s : State) : Host.Outcome State Fault Refusal :=
  conclude (arith16 .sbc .ba (.reg .ix) s)

/-- SBC BA,IY (R466). -/
def execSbcBaIy (s : State) : Host.Outcome State Fault Refusal :=
  conclude (arith16 .sbc .ba (.reg .iy) s)

/-- CP BA,BA (R470). -/
def execCpBaBa (s : State) : Host.Outcome State Fault Refusal :=
  conclude (compare16 .ba (.reg .ba) s)

/-- CP BA,HL (R470). -/
def execCpBaHl (s : State) : Host.Outcome State Fault Refusal :=
  conclude (compare16 .ba (.reg .hl) s)

/-- CP BA,IX (R470). -/
def execCpBaIx (s : State) : Host.Outcome State Fault Refusal :=
  conclude (compare16 .ba (.reg .ix) s)

/-- CP BA,IY (R470). -/
def execCpBaIy (s : State) : Host.Outcome State Fault Refusal :=
  conclude (compare16 .ba (.reg .iy) s)

/-- ADD HL,BA (R444). -/
def execAddHlBa (s : State) : Host.Outcome State Fault Refusal :=
  conclude (arith16 .add .hl (.reg .ba) s)

/-- ADD HL,HL (R444). -/
def execAddHlHl (s : State) : Host.Outcome State Fault Refusal :=
  conclude (arith16 .add .hl (.reg .hl) s)

/-- ADD HL,IX (R444). -/
def execAddHlIx (s : State) : Host.Outcome State Fault Refusal :=
  conclude (arith16 .add .hl (.reg .ix) s)

/-- ADD HL,IY (R444). -/
def execAddHlIy (s : State) : Host.Outcome State Fault Refusal :=
  conclude (arith16 .add .hl (.reg .iy) s)

/-- ADC HL,BA (R454). -/
def execAdcHlBa (s : State) : Host.Outcome State Fault Refusal :=
  conclude (arith16 .adc .hl (.reg .ba) s)

/-- ADC HL,HL (R454). -/
def execAdcHlHl (s : State) : Host.Outcome State Fault Refusal :=
  conclude (arith16 .adc .hl (.reg .hl) s)

/-- ADC HL,IX (R454). -/
def execAdcHlIx (s : State) : Host.Outcome State Fault Refusal :=
  conclude (arith16 .adc .hl (.reg .ix) s)

/-- ADC HL,IY (R454). -/
def execAdcHlIy (s : State) : Host.Outcome State Fault Refusal :=
  conclude (arith16 .adc .hl (.reg .iy) s)

/-- SUB HL,BA (R458). -/
def execSubHlBa (s : State) : Host.Outcome State Fault Refusal :=
  conclude (arith16 .sub .hl (.reg .ba) s)

/-- SUB HL,HL (R458). -/
def execSubHlHl (s : State) : Host.Outcome State Fault Refusal :=
  conclude (arith16 .sub .hl (.reg .hl) s)

/-- SUB HL,IX (R458). -/
def execSubHlIx (s : State) : Host.Outcome State Fault Refusal :=
  conclude (arith16 .sub .hl (.reg .ix) s)

/-- SUB HL,IY (R458). -/
def execSubHlIy (s : State) : Host.Outcome State Fault Refusal :=
  conclude (arith16 .sub .hl (.reg .iy) s)

/-- SBC HL,BA (R468). -/
def execSbcHlBa (s : State) : Host.Outcome State Fault Refusal :=
  conclude (arith16 .sbc .hl (.reg .ba) s)

/-- SBC HL,HL (R468). -/
def execSbcHlHl (s : State) : Host.Outcome State Fault Refusal :=
  conclude (arith16 .sbc .hl (.reg .hl) s)

/-- SBC HL,IX (R468). -/
def execSbcHlIx (s : State) : Host.Outcome State Fault Refusal :=
  conclude (arith16 .sbc .hl (.reg .ix) s)

/-- SBC HL,IY (R468). -/
def execSbcHlIy (s : State) : Host.Outcome State Fault Refusal :=
  conclude (arith16 .sbc .hl (.reg .iy) s)

/-- CP HL,BA (R472). -/
def execCpHlBa (s : State) : Host.Outcome State Fault Refusal :=
  conclude (compare16 .hl (.reg .ba) s)

/-- CP HL,HL (R472). -/
def execCpHlHl (s : State) : Host.Outcome State Fault Refusal :=
  conclude (compare16 .hl (.reg .hl) s)

/-- CP HL,IX (R472). -/
def execCpHlIx (s : State) : Host.Outcome State Fault Refusal :=
  conclude (compare16 .hl (.reg .ix) s)

/-- CP HL,IY (R472). -/
def execCpHlIy (s : State) : Host.Outcome State Fault Refusal :=
  conclude (compare16 .hl (.reg .iy) s)

/-- ADD IX,BA (R446). -/
def execAddIxBa (s : State) : Host.Outcome State Fault Refusal :=
  conclude (arith16 .add .ix (.reg .ba) s)

/-- ADD IX,HL (R446). -/
def execAddIxHl (s : State) : Host.Outcome State Fault Refusal :=
  conclude (arith16 .add .ix (.reg .hl) s)

/-- ADD IY,BA (R448). -/
def execAddIyBa (s : State) : Host.Outcome State Fault Refusal :=
  conclude (arith16 .add .iy (.reg .ba) s)

/-- ADD IY,HL (R448). -/
def execAddIyHl (s : State) : Host.Outcome State Fault Refusal :=
  conclude (arith16 .add .iy (.reg .hl) s)

/-- ADD SP,BA (R450). -/
def execAddSpBa (s : State) : Host.Outcome State Fault Refusal :=
  conclude (arith16 .add .sp (.reg .ba) s)

/-- ADD SP,HL (R450). -/
def execAddSpHl (s : State) : Host.Outcome State Fault Refusal :=
  conclude (arith16 .add .sp (.reg .hl) s)

/-- SUB IX,BA (R460). -/
def execSubIxBa (s : State) : Host.Outcome State Fault Refusal :=
  conclude (arith16 .sub .ix (.reg .ba) s)

/-- SUB IX,HL (R460). -/
def execSubIxHl (s : State) : Host.Outcome State Fault Refusal :=
  conclude (arith16 .sub .ix (.reg .hl) s)

/-- SUB IY,BA (R462). -/
def execSubIyBa (s : State) : Host.Outcome State Fault Refusal :=
  conclude (arith16 .sub .iy (.reg .ba) s)

/-- SUB IY,HL (R462). -/
def execSubIyHl (s : State) : Host.Outcome State Fault Refusal :=
  conclude (arith16 .sub .iy (.reg .hl) s)

/-- SUB SP,BA (R464). -/
def execSubSpBa (s : State) : Host.Outcome State Fault Refusal :=
  conclude (arith16 .sub .sp (.reg .ba) s)

/-- SUB SP,HL (R464). -/
def execSubSpHl (s : State) : Host.Outcome State Fault Refusal :=
  conclude (arith16 .sub .sp (.reg .hl) s)

/-- CP SP,BA (R476). -/
def execCpSpBa (s : State) : Host.Outcome State Fault Refusal :=
  conclude (compare16 .sp (.reg .ba) s)

/-- CP SP,HL (R476). -/
def execCpSpHl (s : State) : Host.Outcome State Fault Refusal :=
  conclude (compare16 .sp (.reg .hl) s)

/-- ADC BA,#mmnn (R453). -/
def execAdcBaImm (mmnn : Word) (s : State) : Host.Outcome State Fault Refusal :=
  conclude (arith16 .adc .ba (.imm mmnn) s)

/-- ADC HL,#mmnn (R455). -/
def execAdcHlImm (mmnn : Word) (s : State) : Host.Outcome State Fault Refusal :=
  conclude (arith16 .adc .hl (.imm mmnn) s)

/-- SBC BA,#mmnn (R467). -/
def execSbcBaImm (mmnn : Word) (s : State) : Host.Outcome State Fault Refusal :=
  conclude (arith16 .sbc .ba (.imm mmnn) s)

/-- SBC HL,#mmnn (R469). -/
def execSbcHlImm (mmnn : Word) (s : State) : Host.Outcome State Fault Refusal :=
  conclude (arith16 .sbc .hl (.imm mmnn) s)

/-- ADD SP,#mmnn (R451). -/
def execAddSpImm (mmnn : Word) (s : State) : Host.Outcome State Fault Refusal :=
  conclude (arith16 .add .sp (.imm mmnn) s)

/-- SUB SP,#mmnn (R465). -/
def execSubSpImm (mmnn : Word) (s : State) : Host.Outcome State Fault Refusal :=
  conclude (arith16 .sub .sp (.imm mmnn) s)

/-- CP SP,#mmnn (R477). -/
def execCpSpImm (mmnn : Word) (s : State) : Host.Outcome State Fault Refusal :=
  conclude (compare16 .sp (.imm mmnn) s)

end Sys2Proof.Machine
end

