-- ==== Sys2Proof/Machine/Arith8.lean ====
section
/-! DEFINITION. 8-bit arithmetic (spec/40_arith8.md): ADD, ADC, SUB, SBC, CP, INC, DEC, NEG, MLT, DIV. The shared operations first, then one meaning per instruction. A meaning sees PC = `pc_next` (log 32). -/

namespace Sys2Proof.Machine

/-- ADD, ADC, SUB, SBC of 8 bits (R140, R145): the source is read before the destination (R156), N V C Z written. -/
def arith8 (op : ArithOp) (dst : Loc8) (src : Src8) (s : State) : Result State := do
  let (b, s1) ← src.read s
  let (a, s2) ← dst.read s1
  let r := op.on8 s2 a b
  let t ← dst.write r.value s2
  .ok (t.setNVCZ r)

/-- CP of 8 bits: Sub8 always, nothing written but N V C Z (R190, R205). -/
def compare8 (dst : Loc8) (src : Src8) (s : State) : Result State := do
  let (b, s1) ← src.read s
  let (a, s2) ← dst.read s1
  .ok (s2.setNVCZ (subBits a b false))

/-- INC of 8 bits: modulo 256, Z only (R206 to R209). -/
def inc8 (loc : Loc8) (s : State) : Result State := do
  let (x, s1) ← loc.read s
  let t ← loc.write (x + 1#8) s1
  .ok (t.setFlag .z (x + 1#8 == 0#8))

/-- DEC of 8 bits: modulo 256, Z only (R210 to R213). -/
def dec8 (loc : Loc8) (s : State) : Result State := do
  let (x, s1) ← loc.read s
  let t ← loc.write (x - 1#8) s1
  .ok (t.setFlag .z (x - 1#8 == 0#8))

/-- NEG: 0 minus the operand, D and U honoured (R214 to R216). -/
def negate8 (loc : Loc8) (s : State) : Result State := do
  let (x, s1) ← loc.read s
  let r := arithSub s1 0#8 x false
  let t ← loc.write r.value s1
  .ok (t.setNVCZ r)

/-- MLT (R217): HL ← L times A, unsigned. -/
def multiply (s : State) : Result State :=
  let p := product s.l s.a
  .ok ((s.set16 .hl p).setNVCZ { value := p, n := p.msb, v := false, c := false, z := p == 0#16 })

/-- The flags of DIV that leaves HL (R218, R652): NVCZ = 1100, for a quotient above 255 (D15, log 12) and for a zero divisor (D16, log 13). -/
def heldDividend (s : State) : State :=
  s.setNVCZ ({ value := s.hl, n := true, v := true, c := false, z := false } : Alu 16)

/-- DIV (R218): a zero divisor takes the zero division exception at once, the return address being `pc_next` (R652, D16, log 13). -/
def divide (s : State) : Result State :=
  if s.a = 0#8 then exceptionEntry .zeroDivision ((heldDividend s).setZdivPending false)
  else
    let q := s.hl.toNat / s.a.toNat
    let rem := s.hl.toNat % s.a.toNat
    if 255 < q then .ok (heldDividend s)
    else
      let l := BitVec.ofNat 8 q
      .ok (((s.set8 .l l).set8 .h (BitVec.ofNat 8 rem)).setNVCZ
        { value := l, n := l.msb, v := false, c := false, z := l == 0#8 })

/-- ADD A,A (R146). -/
def execAddAA (s : State) : Host.Outcome State Fault Refusal :=
  conclude (arith8 .add (.reg .a) (.reg .a) s)

/-- ADD A,B (R146). -/
def execAddAB (s : State) : Host.Outcome State Fault Refusal :=
  conclude (arith8 .add (.reg .a) (.reg .b) s)

/-- ADD A,#nn (R147). -/
def execAddAImm (nn : Byte) (s : State) : Host.Outcome State Fault Refusal :=
  conclude (arith8 .add (.reg .a) (.imm nn) s)

/-- ADD A,[HL] (R150). -/
def execAddAMHl (s : State) : Host.Outcome State Fault Refusal :=
  conclude (arith8 .add (.reg .a) (.mem .hl) s)

/-- ADD A,[BR:ll] (R148). -/
def execAddAMBr (ll : Byte) (s : State) : Host.Outcome State Fault Refusal :=
  conclude (arith8 .add (.reg .a) (.mem (.br ll)) s)

/-- ADD A,[hhll] (R149). -/
def execAddAMAbs (hhll : Word) (s : State) : Host.Outcome State Fault Refusal :=
  conclude (arith8 .add (.reg .a) (.mem (.abs hhll)) s)

/-- ADD A,[IX] (R151). -/
def execAddAMIx (s : State) : Host.Outcome State Fault Refusal :=
  conclude (arith8 .add (.reg .a) (.mem .ix) s)

/-- ADD A,[IY] (R151). -/
def execAddAMIy (s : State) : Host.Outcome State Fault Refusal :=
  conclude (arith8 .add (.reg .a) (.mem .iy) s)

/-- ADC A,A (R157). -/
def execAdcAA (s : State) : Host.Outcome State Fault Refusal :=
  conclude (arith8 .adc (.reg .a) (.reg .a) s)

/-- ADC A,B (R157). -/
def execAdcAB (s : State) : Host.Outcome State Fault Refusal :=
  conclude (arith8 .adc (.reg .a) (.reg .b) s)

/-- ADC A,#nn (R158). -/
def execAdcAImm (nn : Byte) (s : State) : Host.Outcome State Fault Refusal :=
  conclude (arith8 .adc (.reg .a) (.imm nn) s)

/-- ADC A,[HL] (R161). -/
def execAdcAMHl (s : State) : Host.Outcome State Fault Refusal :=
  conclude (arith8 .adc (.reg .a) (.mem .hl) s)

/-- ADC A,[BR:ll] (R159). -/
def execAdcAMBr (ll : Byte) (s : State) : Host.Outcome State Fault Refusal :=
  conclude (arith8 .adc (.reg .a) (.mem (.br ll)) s)

/-- ADC A,[hhll] (R160). -/
def execAdcAMAbs (hhll : Word) (s : State) : Host.Outcome State Fault Refusal :=
  conclude (arith8 .adc (.reg .a) (.mem (.abs hhll)) s)

/-- ADC A,[IX] (R162). -/
def execAdcAMIx (s : State) : Host.Outcome State Fault Refusal :=
  conclude (arith8 .adc (.reg .a) (.mem .ix) s)

/-- ADC A,[IY] (R162). -/
def execAdcAMIy (s : State) : Host.Outcome State Fault Refusal :=
  conclude (arith8 .adc (.reg .a) (.mem .iy) s)

/-- SUB A,A (R168). -/
def execSubAA (s : State) : Host.Outcome State Fault Refusal :=
  conclude (arith8 .sub (.reg .a) (.reg .a) s)

/-- SUB A,B (R168). -/
def execSubAB (s : State) : Host.Outcome State Fault Refusal :=
  conclude (arith8 .sub (.reg .a) (.reg .b) s)

/-- SUB A,#nn (R169). -/
def execSubAImm (nn : Byte) (s : State) : Host.Outcome State Fault Refusal :=
  conclude (arith8 .sub (.reg .a) (.imm nn) s)

/-- SUB A,[HL] (R172). -/
def execSubAMHl (s : State) : Host.Outcome State Fault Refusal :=
  conclude (arith8 .sub (.reg .a) (.mem .hl) s)

/-- SUB A,[BR:ll] (R170). -/
def execSubAMBr (ll : Byte) (s : State) : Host.Outcome State Fault Refusal :=
  conclude (arith8 .sub (.reg .a) (.mem (.br ll)) s)

/-- SUB A,[hhll] (R171). -/
def execSubAMAbs (hhll : Word) (s : State) : Host.Outcome State Fault Refusal :=
  conclude (arith8 .sub (.reg .a) (.mem (.abs hhll)) s)

/-- SUB A,[IX] (R173). -/
def execSubAMIx (s : State) : Host.Outcome State Fault Refusal :=
  conclude (arith8 .sub (.reg .a) (.mem .ix) s)

/-- SUB A,[IY] (R173). -/
def execSubAMIy (s : State) : Host.Outcome State Fault Refusal :=
  conclude (arith8 .sub (.reg .a) (.mem .iy) s)

/-- SBC A,A (R179). -/
def execSbcAA (s : State) : Host.Outcome State Fault Refusal :=
  conclude (arith8 .sbc (.reg .a) (.reg .a) s)

/-- SBC A,B (R179). -/
def execSbcAB (s : State) : Host.Outcome State Fault Refusal :=
  conclude (arith8 .sbc (.reg .a) (.reg .b) s)

/-- SBC A,#nn (R180). -/
def execSbcAImm (nn : Byte) (s : State) : Host.Outcome State Fault Refusal :=
  conclude (arith8 .sbc (.reg .a) (.imm nn) s)

/-- SBC A,[HL] (R183). -/
def execSbcAMHl (s : State) : Host.Outcome State Fault Refusal :=
  conclude (arith8 .sbc (.reg .a) (.mem .hl) s)

/-- SBC A,[BR:ll] (R181). -/
def execSbcAMBr (ll : Byte) (s : State) : Host.Outcome State Fault Refusal :=
  conclude (arith8 .sbc (.reg .a) (.mem (.br ll)) s)

/-- SBC A,[hhll] (R182). -/
def execSbcAMAbs (hhll : Word) (s : State) : Host.Outcome State Fault Refusal :=
  conclude (arith8 .sbc (.reg .a) (.mem (.abs hhll)) s)

/-- SBC A,[IX] (R184). -/
def execSbcAMIx (s : State) : Host.Outcome State Fault Refusal :=
  conclude (arith8 .sbc (.reg .a) (.mem .ix) s)

/-- SBC A,[IY] (R184). -/
def execSbcAMIy (s : State) : Host.Outcome State Fault Refusal :=
  conclude (arith8 .sbc (.reg .a) (.mem .iy) s)

/-- CP A,A (R190). -/
def execCpAA (s : State) : Host.Outcome State Fault Refusal :=
  conclude (compare8 (.reg .a) (.reg .a) s)

/-- CP A,B (R190). -/
def execCpAB (s : State) : Host.Outcome State Fault Refusal :=
  conclude (compare8 (.reg .a) (.reg .b) s)

/-- CP A,#nn (R191). -/
def execCpAImm (nn : Byte) (s : State) : Host.Outcome State Fault Refusal :=
  conclude (compare8 (.reg .a) (.imm nn) s)

/-- CP A,[HL] (R194). -/
def execCpAMHl (s : State) : Host.Outcome State Fault Refusal :=
  conclude (compare8 (.reg .a) (.mem .hl) s)

/-- CP A,[BR:ll] (R192). -/
def execCpAMBr (ll : Byte) (s : State) : Host.Outcome State Fault Refusal :=
  conclude (compare8 (.reg .a) (.mem (.br ll)) s)

/-- CP A,[hhll] (R193). -/
def execCpAMAbs (hhll : Word) (s : State) : Host.Outcome State Fault Refusal :=
  conclude (compare8 (.reg .a) (.mem (.abs hhll)) s)

/-- CP A,[IX] (R195). -/
def execCpAMIx (s : State) : Host.Outcome State Fault Refusal :=
  conclude (compare8 (.reg .a) (.mem .ix) s)

/-- CP A,[IY] (R195). -/
def execCpAMIy (s : State) : Host.Outcome State Fault Refusal :=
  conclude (compare8 (.reg .a) (.mem .iy) s)

/-- INC A (R206). -/
def execIncA (s : State) : Host.Outcome State Fault Refusal :=
  conclude (inc8 (.reg .a) s)

/-- INC B (R206). -/
def execIncB (s : State) : Host.Outcome State Fault Refusal :=
  conclude (inc8 (.reg .b) s)

/-- INC L (R206). -/
def execIncL (s : State) : Host.Outcome State Fault Refusal :=
  conclude (inc8 (.reg .l) s)

/-- INC H (R206). -/
def execIncH (s : State) : Host.Outcome State Fault Refusal :=
  conclude (inc8 (.reg .h) s)

/-- INC BR (R207). -/
def execIncBr (s : State) : Host.Outcome State Fault Refusal :=
  conclude (inc8 (.reg .br) s)

/-- INC [BR:ll] (R208). -/
def execIncMBr (ll : Byte) (s : State) : Host.Outcome State Fault Refusal :=
  conclude (inc8 (.mem (.br ll)) s)

/-- INC [HL] (R209). -/
def execIncMHl (s : State) : Host.Outcome State Fault Refusal :=
  conclude (inc8 (.mem .hl) s)

/-- DEC A (R210). -/
def execDecA (s : State) : Host.Outcome State Fault Refusal :=
  conclude (dec8 (.reg .a) s)

/-- DEC B (R210). -/
def execDecB (s : State) : Host.Outcome State Fault Refusal :=
  conclude (dec8 (.reg .b) s)

/-- DEC L (R210). -/
def execDecL (s : State) : Host.Outcome State Fault Refusal :=
  conclude (dec8 (.reg .l) s)

/-- DEC H (R210). -/
def execDecH (s : State) : Host.Outcome State Fault Refusal :=
  conclude (dec8 (.reg .h) s)

/-- DEC BR (R211). -/
def execDecBr (s : State) : Host.Outcome State Fault Refusal :=
  conclude (dec8 (.reg .br) s)

/-- DEC [BR:ll] (R212). -/
def execDecMBr (ll : Byte) (s : State) : Host.Outcome State Fault Refusal :=
  conclude (dec8 (.mem (.br ll)) s)

/-- DEC [HL] (R213). -/
def execDecMHl (s : State) : Host.Outcome State Fault Refusal :=
  conclude (dec8 (.mem .hl) s)

/-- CP [BR:ll],#nn (R202). -/
def execCpMBrImm (ll : Byte) (nn : Byte) (s : State) : Host.Outcome State Fault Refusal :=
  conclude (compare8 (.mem (.br ll)) (.imm nn) s)

/-- ADD A,[IX+dd] (R152). -/
def execAddAMIxDd (dd : Byte) (s : State) : Host.Outcome State Fault Refusal :=
  conclude (arith8 .add (.reg .a) (.mem (.ixd dd)) s)

/-- ADD A,[IY+dd] (R152). -/
def execAddAMIyDd (dd : Byte) (s : State) : Host.Outcome State Fault Refusal :=
  conclude (arith8 .add (.reg .a) (.mem (.iyd dd)) s)

/-- ADD A,[IX+L] (R153). -/
def execAddAMIxL (s : State) : Host.Outcome State Fault Refusal :=
  conclude (arith8 .add (.reg .a) (.mem .ixl) s)

/-- ADD A,[IY+L] (R153). -/
def execAddAMIyL (s : State) : Host.Outcome State Fault Refusal :=
  conclude (arith8 .add (.reg .a) (.mem .iyl) s)

/-- ADD [HL],A (R154). -/
def execAddMHlA (s : State) : Host.Outcome State Fault Refusal :=
  conclude (arith8 .add (.mem .hl) (.reg .a) s)

/-- ADD [HL],#nn (R155). -/
def execAddMHlImm (nn : Byte) (s : State) : Host.Outcome State Fault Refusal :=
  conclude (arith8 .add (.mem .hl) (.imm nn) s)

/-- ADD [HL],[IX] (R156). -/
def execAddMHlMIx (s : State) : Host.Outcome State Fault Refusal :=
  conclude (arith8 .add (.mem .hl) (.mem .ix) s)

/-- ADD [HL],[IY] (R156). -/
def execAddMHlMIy (s : State) : Host.Outcome State Fault Refusal :=
  conclude (arith8 .add (.mem .hl) (.mem .iy) s)

/-- ADC A,[IX+dd] (R163). -/
def execAdcAMIxDd (dd : Byte) (s : State) : Host.Outcome State Fault Refusal :=
  conclude (arith8 .adc (.reg .a) (.mem (.ixd dd)) s)

/-- ADC A,[IY+dd] (R163). -/
def execAdcAMIyDd (dd : Byte) (s : State) : Host.Outcome State Fault Refusal :=
  conclude (arith8 .adc (.reg .a) (.mem (.iyd dd)) s)

/-- ADC A,[IX+L] (R164). -/
def execAdcAMIxL (s : State) : Host.Outcome State Fault Refusal :=
  conclude (arith8 .adc (.reg .a) (.mem .ixl) s)

/-- ADC A,[IY+L] (R164). -/
def execAdcAMIyL (s : State) : Host.Outcome State Fault Refusal :=
  conclude (arith8 .adc (.reg .a) (.mem .iyl) s)

/-- ADC [HL],A (R165). -/
def execAdcMHlA (s : State) : Host.Outcome State Fault Refusal :=
  conclude (arith8 .adc (.mem .hl) (.reg .a) s)

/-- ADC [HL],#nn (R166). -/
def execAdcMHlImm (nn : Byte) (s : State) : Host.Outcome State Fault Refusal :=
  conclude (arith8 .adc (.mem .hl) (.imm nn) s)

/-- ADC [HL],[IX] (R167). -/
def execAdcMHlMIx (s : State) : Host.Outcome State Fault Refusal :=
  conclude (arith8 .adc (.mem .hl) (.mem .ix) s)

/-- ADC [HL],[IY] (R167). -/
def execAdcMHlMIy (s : State) : Host.Outcome State Fault Refusal :=
  conclude (arith8 .adc (.mem .hl) (.mem .iy) s)

/-- SUB A,[IX+dd] (R174). -/
def execSubAMIxDd (dd : Byte) (s : State) : Host.Outcome State Fault Refusal :=
  conclude (arith8 .sub (.reg .a) (.mem (.ixd dd)) s)

/-- SUB A,[IY+dd] (R174). -/
def execSubAMIyDd (dd : Byte) (s : State) : Host.Outcome State Fault Refusal :=
  conclude (arith8 .sub (.reg .a) (.mem (.iyd dd)) s)

/-- SUB A,[IX+L] (R175). -/
def execSubAMIxL (s : State) : Host.Outcome State Fault Refusal :=
  conclude (arith8 .sub (.reg .a) (.mem .ixl) s)

/-- SUB A,[IY+L] (R175). -/
def execSubAMIyL (s : State) : Host.Outcome State Fault Refusal :=
  conclude (arith8 .sub (.reg .a) (.mem .iyl) s)

/-- SUB [HL],A (R176). -/
def execSubMHlA (s : State) : Host.Outcome State Fault Refusal :=
  conclude (arith8 .sub (.mem .hl) (.reg .a) s)

/-- SUB [HL],#nn (R177). -/
def execSubMHlImm (nn : Byte) (s : State) : Host.Outcome State Fault Refusal :=
  conclude (arith8 .sub (.mem .hl) (.imm nn) s)

/-- SUB [HL],[IX] (R178). -/
def execSubMHlMIx (s : State) : Host.Outcome State Fault Refusal :=
  conclude (arith8 .sub (.mem .hl) (.mem .ix) s)

/-- SUB [HL],[IY] (R178). -/
def execSubMHlMIy (s : State) : Host.Outcome State Fault Refusal :=
  conclude (arith8 .sub (.mem .hl) (.mem .iy) s)

/-- SBC A,[IX+dd] (R185). -/
def execSbcAMIxDd (dd : Byte) (s : State) : Host.Outcome State Fault Refusal :=
  conclude (arith8 .sbc (.reg .a) (.mem (.ixd dd)) s)

/-- SBC A,[IY+dd] (R185). -/
def execSbcAMIyDd (dd : Byte) (s : State) : Host.Outcome State Fault Refusal :=
  conclude (arith8 .sbc (.reg .a) (.mem (.iyd dd)) s)

/-- SBC A,[IX+L] (R186). -/
def execSbcAMIxL (s : State) : Host.Outcome State Fault Refusal :=
  conclude (arith8 .sbc (.reg .a) (.mem .ixl) s)

/-- SBC A,[IY+L] (R186). -/
def execSbcAMIyL (s : State) : Host.Outcome State Fault Refusal :=
  conclude (arith8 .sbc (.reg .a) (.mem .iyl) s)

/-- SBC [HL],A (R187). -/
def execSbcMHlA (s : State) : Host.Outcome State Fault Refusal :=
  conclude (arith8 .sbc (.mem .hl) (.reg .a) s)

/-- SBC [HL],#nn (R188). -/
def execSbcMHlImm (nn : Byte) (s : State) : Host.Outcome State Fault Refusal :=
  conclude (arith8 .sbc (.mem .hl) (.imm nn) s)

/-- SBC [HL],[IX] (R189). -/
def execSbcMHlMIx (s : State) : Host.Outcome State Fault Refusal :=
  conclude (arith8 .sbc (.mem .hl) (.mem .ix) s)

/-- SBC [HL],[IY] (R189). -/
def execSbcMHlMIy (s : State) : Host.Outcome State Fault Refusal :=
  conclude (arith8 .sbc (.mem .hl) (.mem .iy) s)

/-- CP A,[IX+dd] (R196). -/
def execCpAMIxDd (dd : Byte) (s : State) : Host.Outcome State Fault Refusal :=
  conclude (compare8 (.reg .a) (.mem (.ixd dd)) s)

/-- CP A,[IY+dd] (R196). -/
def execCpAMIyDd (dd : Byte) (s : State) : Host.Outcome State Fault Refusal :=
  conclude (compare8 (.reg .a) (.mem (.iyd dd)) s)

/-- CP A,[IX+L] (R197). -/
def execCpAMIxL (s : State) : Host.Outcome State Fault Refusal :=
  conclude (compare8 (.reg .a) (.mem .ixl) s)

/-- CP A,[IY+L] (R197). -/
def execCpAMIyL (s : State) : Host.Outcome State Fault Refusal :=
  conclude (compare8 (.reg .a) (.mem .iyl) s)

/-- CP [HL],A (R203). -/
def execCpMHlA (s : State) : Host.Outcome State Fault Refusal :=
  conclude (compare8 (.mem .hl) (.reg .a) s)

/-- CP [HL],#nn (R204). -/
def execCpMHlImm (nn : Byte) (s : State) : Host.Outcome State Fault Refusal :=
  conclude (compare8 (.mem .hl) (.imm nn) s)

/-- CP [HL],[IX] (R205). -/
def execCpMHlMIx (s : State) : Host.Outcome State Fault Refusal :=
  conclude (compare8 (.mem .hl) (.mem .ix) s)

/-- CP [HL],[IY] (R205). -/
def execCpMHlMIy (s : State) : Host.Outcome State Fault Refusal :=
  conclude (compare8 (.mem .hl) (.mem .iy) s)

/-- NEG A (R214). -/
def execNegA (s : State) : Host.Outcome State Fault Refusal :=
  conclude (negate8 (.reg .a) s)

/-- NEG B (R214). -/
def execNegB (s : State) : Host.Outcome State Fault Refusal :=
  conclude (negate8 (.reg .b) s)

/-- NEG [BR:ll] (R215). -/
def execNegMBr (ll : Byte) (s : State) : Host.Outcome State Fault Refusal :=
  conclude (negate8 (.mem (.br ll)) s)

/-- NEG [HL] (R216). -/
def execNegMHl (s : State) : Host.Outcome State Fault Refusal :=
  conclude (negate8 (.mem .hl) s)

/-- CP B,#nn (R198). -/
def execCpBImm (nn : Byte) (s : State) : Host.Outcome State Fault Refusal :=
  conclude (compare8 (.reg .b) (.imm nn) s)

/-- CP L,#nn (R199). -/
def execCpLImm (nn : Byte) (s : State) : Host.Outcome State Fault Refusal :=
  conclude (compare8 (.reg .l) (.imm nn) s)

/-- CP H,#nn (R200). -/
def execCpHImm (nn : Byte) (s : State) : Host.Outcome State Fault Refusal :=
  conclude (compare8 (.reg .h) (.imm nn) s)

/-- CP BR,#hh (R201). -/
def execCpBrImm (hh : Byte) (s : State) : Host.Outcome State Fault Refusal :=
  conclude (compare8 (.reg .br) (.imm hh) s)

/-- MLT (R217). MODEL1 and MODEL3 only (U3). -/
def execMlt (s : State) : Host.Outcome State Fault Refusal :=
  conclude (requires .mulDiv s (multiply s))

/-- DIV (R218). MODEL1 and MODEL3 only (U3). -/
def execDiv (s : State) : Host.Outcome State Fault Refusal :=
  conclude (requires .mulDiv s (divide s))

end Sys2Proof.Machine
end

