-- ==== Sys2Proof/Machine/AuxRotate.lean ====
section
/-! DEFINITION. Auxiliary operations and shifts (spec/45_aux_rotate.md): PACK, UPCK, SEP, SLA, SLL, SRA, SRL, RL, RLC, RR, RRC. The shared operations first, then one meaning per instruction. A meaning sees PC = `pc_next` (log 32). -/

namespace Sys2Proof.Machine

/-- PACK (R501): A ← B[3:0] ++ A[3:0]. -/
def packDigits (s : State) : Result State := .ok (s.set8 .a (loNibble s.b ++ loNibble s.a))

/-- UPCK (R502): both right-hand sides use A before the instruction. -/
def unpackDigits (s : State) : Result State :=
  .ok ((s.set8 .b (0#4 ++ hiNibble s.a)).set8 .a (0#4 ++ loNibble s.a))

/-- SEP (R503): B is filled with the sign of A. -/
def signExtendA (s : State) : Result State :=
  .ok (s.set8 .b (if s.a.getLsbD 7 then 0xFF#8 else 0x00#8))

/-- A shift or rotate by one bit (R500, R504 to R527); where V is unchanged it is written with its own value. -/
def shift8 (op : ShiftOp) (loc : Loc8) (s : State) : Result State := do
  let (x, s1) ← loc.read s
  let r := op.apply s1 x
  let t ← loc.write r.value s1
  .ok (t.setNVCZ r)

/-- PACK (R501). -/
def execPack (s : State) : Host.Outcome State Fault Refusal :=
  conclude (packDigits s)

/-- UPCK (R502). -/
def execUpck (s : State) : Host.Outcome State Fault Refusal :=
  conclude (unpackDigits s)

/-- SLA A (R504). -/
def execSlaA (s : State) : Host.Outcome State Fault Refusal :=
  conclude (shift8 .sla (.reg .a) s)

/-- SLA B (R504). -/
def execSlaB (s : State) : Host.Outcome State Fault Refusal :=
  conclude (shift8 .sla (.reg .b) s)

/-- SLA [BR:ll] (R505). -/
def execSlaMBr (ll : Byte) (s : State) : Host.Outcome State Fault Refusal :=
  conclude (shift8 .sla (.mem (.br ll)) s)

/-- SLA [HL] (R506). -/
def execSlaMHl (s : State) : Host.Outcome State Fault Refusal :=
  conclude (shift8 .sla (.mem .hl) s)

/-- SLL A (R507). -/
def execSllA (s : State) : Host.Outcome State Fault Refusal :=
  conclude (shift8 .sll (.reg .a) s)

/-- SLL B (R507). -/
def execSllB (s : State) : Host.Outcome State Fault Refusal :=
  conclude (shift8 .sll (.reg .b) s)

/-- SLL [BR:ll] (R508). -/
def execSllMBr (ll : Byte) (s : State) : Host.Outcome State Fault Refusal :=
  conclude (shift8 .sll (.mem (.br ll)) s)

/-- SLL [HL] (R509). -/
def execSllMHl (s : State) : Host.Outcome State Fault Refusal :=
  conclude (shift8 .sll (.mem .hl) s)

/-- SRA A (R510). -/
def execSraA (s : State) : Host.Outcome State Fault Refusal :=
  conclude (shift8 .sra (.reg .a) s)

/-- SRA B (R510). -/
def execSraB (s : State) : Host.Outcome State Fault Refusal :=
  conclude (shift8 .sra (.reg .b) s)

/-- SRA [BR:ll] (R511). -/
def execSraMBr (ll : Byte) (s : State) : Host.Outcome State Fault Refusal :=
  conclude (shift8 .sra (.mem (.br ll)) s)

/-- SRA [HL] (R512). -/
def execSraMHl (s : State) : Host.Outcome State Fault Refusal :=
  conclude (shift8 .sra (.mem .hl) s)

/-- SRL A (R513). -/
def execSrlA (s : State) : Host.Outcome State Fault Refusal :=
  conclude (shift8 .srl (.reg .a) s)

/-- SRL B (R513). -/
def execSrlB (s : State) : Host.Outcome State Fault Refusal :=
  conclude (shift8 .srl (.reg .b) s)

/-- SRL [BR:ll] (R514). -/
def execSrlMBr (ll : Byte) (s : State) : Host.Outcome State Fault Refusal :=
  conclude (shift8 .srl (.mem (.br ll)) s)

/-- SRL [HL] (R515). -/
def execSrlMHl (s : State) : Host.Outcome State Fault Refusal :=
  conclude (shift8 .srl (.mem .hl) s)

/-- RL A (R516). -/
def execRlA (s : State) : Host.Outcome State Fault Refusal :=
  conclude (shift8 .rl (.reg .a) s)

/-- RL B (R516). -/
def execRlB (s : State) : Host.Outcome State Fault Refusal :=
  conclude (shift8 .rl (.reg .b) s)

/-- RL [BR:ll] (R517). -/
def execRlMBr (ll : Byte) (s : State) : Host.Outcome State Fault Refusal :=
  conclude (shift8 .rl (.mem (.br ll)) s)

/-- RL [HL] (R518). -/
def execRlMHl (s : State) : Host.Outcome State Fault Refusal :=
  conclude (shift8 .rl (.mem .hl) s)

/-- RLC A (R519). -/
def execRlcA (s : State) : Host.Outcome State Fault Refusal :=
  conclude (shift8 .rlc (.reg .a) s)

/-- RLC B (R519). -/
def execRlcB (s : State) : Host.Outcome State Fault Refusal :=
  conclude (shift8 .rlc (.reg .b) s)

/-- RLC [BR:ll] (R520). -/
def execRlcMBr (ll : Byte) (s : State) : Host.Outcome State Fault Refusal :=
  conclude (shift8 .rlc (.mem (.br ll)) s)

/-- RLC [HL] (R521). -/
def execRlcMHl (s : State) : Host.Outcome State Fault Refusal :=
  conclude (shift8 .rlc (.mem .hl) s)

/-- RR A (R522). -/
def execRrA (s : State) : Host.Outcome State Fault Refusal :=
  conclude (shift8 .rr (.reg .a) s)

/-- RR B (R522). -/
def execRrB (s : State) : Host.Outcome State Fault Refusal :=
  conclude (shift8 .rr (.reg .b) s)

/-- RR [BR:ll] (R523). -/
def execRrMBr (ll : Byte) (s : State) : Host.Outcome State Fault Refusal :=
  conclude (shift8 .rr (.mem (.br ll)) s)

/-- RR [HL] (R524). -/
def execRrMHl (s : State) : Host.Outcome State Fault Refusal :=
  conclude (shift8 .rr (.mem .hl) s)

/-- RRC A (R525). -/
def execRrcA (s : State) : Host.Outcome State Fault Refusal :=
  conclude (shift8 .rrc (.reg .a) s)

/-- RRC B (R525). -/
def execRrcB (s : State) : Host.Outcome State Fault Refusal :=
  conclude (shift8 .rrc (.reg .b) s)

/-- RRC [BR:ll] (R526). -/
def execRrcMBr (ll : Byte) (s : State) : Host.Outcome State Fault Refusal :=
  conclude (shift8 .rrc (.mem (.br ll)) s)

/-- RRC [HL] (R527). -/
def execRrcMHl (s : State) : Host.Outcome State Fault Refusal :=
  conclude (shift8 .rrc (.mem .hl) s)

/-- SEP (R503). -/
def execSep (s : State) : Host.Outcome State Fault Refusal :=
  conclude (signExtendA s)

end Sys2Proof.Machine
end

