-- ==== Sys2Proof/Machine/Branch.lean ====
section
/-! DEFINITION. Branches (spec/47_branch.md): JRS, JRL, DJR, JP, CARS, CARL, CALL, RET, RETE, RETS, INT. The shared operations first, then one meaning per instruction. A meaning sees PC = `pc_next` (log 32). -/

namespace Sys2Proof.Machine

/-- JRS, JRL (R598 to R602): taken or not by the condition. -/
def jump (cond : Cond) (offset : Word) (s : State) : Result State :=
  .ok (if cond.holds s then branch (relTarget s offset) s else noBranch s)

/-- DJR NZ,rr (R603): B is decremented, Z written, the branch taken while B is not zero. -/
def decrementJump (offset : Word) (s : State) : Result State :=
  let b := s.b - 1#8
  let t := (s.set8 .b b).setFlag .z (b == 0#8)
  .ok (if b = 0#8 then noBranch t else branch (relTarget t offset) t)

/-- JP HL (R604). -/
def jumpHl (s : State) : Result State := .ok (branch s.hl s)

/-- JP [kk] (R605). -/
def jumpVector (kk : Byte) (s : State) : Result State := do
  let (v, t) ← readVector s kk
  .ok (branch v t)

/-- CARS, CARL (R606 to R610): the return address is `pc_next`; no stack operation if not taken (R592). -/
def call (cond : Cond) (offset : Word) (s : State) : Result State :=
  if cond.holds s then do
    let t ← callPush s
    .ok (branch (relTarget s offset) t)
  else .ok (noBranch s)

/-- CALL [hhll] (R611): push, then read the pointer in page EP (D4, log 17). -/
def callIndirect (hhll : Word) (s : State) : Result State := do
  let t ← callPush s
  let (v, u) ← readWord t t.ep hhll
  .ok (branch v u)

/-- RET (R612). -/
def returnPlain (s : State) : Result State := retPop s

/-- RETE (R613). -/
def returnException (s : State) : Result State := exceptionReturn s

/-- RETS (R614): RET, then PC + 2. -/
def returnSkip (s : State) : Result State := do
  let t ← retPop s
  .ok (t.setPc (t.pc + 2#16))

/-- INT [kk] (R615): the steps of an exception entry, in its status (R664, R702), with the vector at kk, I1 and I0 unchanged (D17, log 14). It is no acknowledged exception: IACK stays HIGH and the bus open (D6). -/
def softInterrupt (kk : Byte) (s : State) : Result State := do
  let t ← pushFrame (s.setStatus .exception)
  let (v, u) ← readVector t kk
  .ok ((branch v u).setStatus .run)

/-- CARS C,rr (R607). -/
def execCarsC (rr : Byte) (s : State) : Host.Outcome State Fault Refusal :=
  conclude (call .c (sext16 rr) s)

/-- CARS NC,rr (R607). -/
def execCarsNc (rr : Byte) (s : State) : Host.Outcome State Fault Refusal :=
  conclude (call .nc (sext16 rr) s)

/-- CARS Z,rr (R607). -/
def execCarsZ (rr : Byte) (s : State) : Host.Outcome State Fault Refusal :=
  conclude (call .z (sext16 rr) s)

/-- CARS NZ,rr (R607). -/
def execCarsNz (rr : Byte) (s : State) : Host.Outcome State Fault Refusal :=
  conclude (call .nz (sext16 rr) s)

/-- JRS C,rr (R599). -/
def execJrsC (rr : Byte) (s : State) : Host.Outcome State Fault Refusal :=
  conclude (jump .c (sext16 rr) s)

/-- JRS NC,rr (R599). -/
def execJrsNc (rr : Byte) (s : State) : Host.Outcome State Fault Refusal :=
  conclude (jump .nc (sext16 rr) s)

/-- JRS Z,rr (R599). -/
def execJrsZ (rr : Byte) (s : State) : Host.Outcome State Fault Refusal :=
  conclude (jump .z (sext16 rr) s)

/-- JRS NZ,rr (R599). -/
def execJrsNz (rr : Byte) (s : State) : Host.Outcome State Fault Refusal :=
  conclude (jump .nz (sext16 rr) s)

/-- CARL C,qqrr (R610). -/
def execCarlC (qqrr : Word) (s : State) : Host.Outcome State Fault Refusal :=
  conclude (call .c qqrr s)

/-- CARL NC,qqrr (R610). -/
def execCarlNc (qqrr : Word) (s : State) : Host.Outcome State Fault Refusal :=
  conclude (call .nc qqrr s)

/-- CARL Z,qqrr (R610). -/
def execCarlZ (qqrr : Word) (s : State) : Host.Outcome State Fault Refusal :=
  conclude (call .z qqrr s)

/-- CARL NZ,qqrr (R610). -/
def execCarlNz (qqrr : Word) (s : State) : Host.Outcome State Fault Refusal :=
  conclude (call .nz qqrr s)

/-- JRL C,qqrr (R602). -/
def execJrlC (qqrr : Word) (s : State) : Host.Outcome State Fault Refusal :=
  conclude (jump .c qqrr s)

/-- JRL NC,qqrr (R602). -/
def execJrlNc (qqrr : Word) (s : State) : Host.Outcome State Fault Refusal :=
  conclude (jump .nc qqrr s)

/-- JRL Z,qqrr (R602). -/
def execJrlZ (qqrr : Word) (s : State) : Host.Outcome State Fault Refusal :=
  conclude (jump .z qqrr s)

/-- JRL NZ,qqrr (R602). -/
def execJrlNz (qqrr : Word) (s : State) : Host.Outcome State Fault Refusal :=
  conclude (jump .nz qqrr s)

/-- CARS rr (R606). -/
def execCars (rr : Byte) (s : State) : Host.Outcome State Fault Refusal :=
  conclude (call .always (sext16 rr) s)

/-- JRS rr (R598). -/
def execJrs (rr : Byte) (s : State) : Host.Outcome State Fault Refusal :=
  conclude (jump .always (sext16 rr) s)

/-- CARL qqrr (R609). -/
def execCarl (qqrr : Word) (s : State) : Host.Outcome State Fault Refusal :=
  conclude (call .always qqrr s)

/-- JRL qqrr (R601). -/
def execJrl (qqrr : Word) (s : State) : Host.Outcome State Fault Refusal :=
  conclude (jump .always qqrr s)

/-- JP HL (R604). -/
def execJpHl (s : State) : Host.Outcome State Fault Refusal :=
  conclude (jumpHl s)

/-- DJR NZ,rr (R603). -/
def execDjrNz (rr : Byte) (s : State) : Host.Outcome State Fault Refusal :=
  conclude (decrementJump (sext16 rr) s)

/-- RET (R612). -/
def execRet (s : State) : Host.Outcome State Fault Refusal :=
  conclude (returnPlain s)

/-- RETE (R613). -/
def execRete (s : State) : Host.Outcome State Fault Refusal :=
  conclude (returnException s)

/-- RETS (R614). -/
def execRets (s : State) : Host.Outcome State Fault Refusal :=
  conclude (returnSkip s)

/-- CALL [hhll] (R611). -/
def execCallMAbs (hhll : Word) (s : State) : Host.Outcome State Fault Refusal :=
  conclude (callIndirect hhll s)

/-- INT [kk] (R615). -/
def execIntVec (kk : Byte) (s : State) : Host.Outcome State Fault Refusal :=
  conclude (softInterrupt kk s)

/-- JP [kk] (R605). -/
def execJpVec (kk : Byte) (s : State) : Host.Outcome State Fault Refusal :=
  conclude (jumpVector kk s)

/-- JRS LT,rr (R600). -/
def execJrsLt (rr : Byte) (s : State) : Host.Outcome State Fault Refusal :=
  conclude (jump .lt (sext16 rr) s)

/-- JRS LE,rr (R600). -/
def execJrsLe (rr : Byte) (s : State) : Host.Outcome State Fault Refusal :=
  conclude (jump .le (sext16 rr) s)

/-- JRS GT,rr (R600). -/
def execJrsGt (rr : Byte) (s : State) : Host.Outcome State Fault Refusal :=
  conclude (jump .gt (sext16 rr) s)

/-- JRS GE,rr (R600). -/
def execJrsGe (rr : Byte) (s : State) : Host.Outcome State Fault Refusal :=
  conclude (jump .ge (sext16 rr) s)

/-- JRS V,rr (R600). -/
def execJrsV (rr : Byte) (s : State) : Host.Outcome State Fault Refusal :=
  conclude (jump .v (sext16 rr) s)

/-- JRS NV,rr (R600). -/
def execJrsNv (rr : Byte) (s : State) : Host.Outcome State Fault Refusal :=
  conclude (jump .nv (sext16 rr) s)

/-- JRS P,rr (R600). -/
def execJrsP (rr : Byte) (s : State) : Host.Outcome State Fault Refusal :=
  conclude (jump .p (sext16 rr) s)

/-- JRS M,rr (R600). -/
def execJrsM (rr : Byte) (s : State) : Host.Outcome State Fault Refusal :=
  conclude (jump .m (sext16 rr) s)

/-- JRS F0,rr (R600). -/
def execJrsF0 (rr : Byte) (s : State) : Host.Outcome State Fault Refusal :=
  conclude (jump .f0 (sext16 rr) s)

/-- JRS F1,rr (R600). -/
def execJrsF1 (rr : Byte) (s : State) : Host.Outcome State Fault Refusal :=
  conclude (jump .f1 (sext16 rr) s)

/-- JRS F2,rr (R600). -/
def execJrsF2 (rr : Byte) (s : State) : Host.Outcome State Fault Refusal :=
  conclude (jump .f2 (sext16 rr) s)

/-- JRS F3,rr (R600). -/
def execJrsF3 (rr : Byte) (s : State) : Host.Outcome State Fault Refusal :=
  conclude (jump .f3 (sext16 rr) s)

/-- JRS NF0,rr (R600). -/
def execJrsNf0 (rr : Byte) (s : State) : Host.Outcome State Fault Refusal :=
  conclude (jump .nf0 (sext16 rr) s)

/-- JRS NF1,rr (R600). -/
def execJrsNf1 (rr : Byte) (s : State) : Host.Outcome State Fault Refusal :=
  conclude (jump .nf1 (sext16 rr) s)

/-- JRS NF2,rr (R600). -/
def execJrsNf2 (rr : Byte) (s : State) : Host.Outcome State Fault Refusal :=
  conclude (jump .nf2 (sext16 rr) s)

/-- JRS NF3,rr (R600). -/
def execJrsNf3 (rr : Byte) (s : State) : Host.Outcome State Fault Refusal :=
  conclude (jump .nf3 (sext16 rr) s)

/-- CARS LT,rr (R608). -/
def execCarsLt (rr : Byte) (s : State) : Host.Outcome State Fault Refusal :=
  conclude (call .lt (sext16 rr) s)

/-- CARS LE,rr (R608). -/
def execCarsLe (rr : Byte) (s : State) : Host.Outcome State Fault Refusal :=
  conclude (call .le (sext16 rr) s)

/-- CARS GT,rr (R608). -/
def execCarsGt (rr : Byte) (s : State) : Host.Outcome State Fault Refusal :=
  conclude (call .gt (sext16 rr) s)

/-- CARS GE,rr (R608). -/
def execCarsGe (rr : Byte) (s : State) : Host.Outcome State Fault Refusal :=
  conclude (call .ge (sext16 rr) s)

/-- CARS V,rr (R608). -/
def execCarsV (rr : Byte) (s : State) : Host.Outcome State Fault Refusal :=
  conclude (call .v (sext16 rr) s)

/-- CARS NV,rr (R608). -/
def execCarsNv (rr : Byte) (s : State) : Host.Outcome State Fault Refusal :=
  conclude (call .nv (sext16 rr) s)

/-- CARS P,rr (R608). -/
def execCarsP (rr : Byte) (s : State) : Host.Outcome State Fault Refusal :=
  conclude (call .p (sext16 rr) s)

/-- CARS M,rr (R608). -/
def execCarsM (rr : Byte) (s : State) : Host.Outcome State Fault Refusal :=
  conclude (call .m (sext16 rr) s)

/-- CARS F0,rr (R608). -/
def execCarsF0 (rr : Byte) (s : State) : Host.Outcome State Fault Refusal :=
  conclude (call .f0 (sext16 rr) s)

/-- CARS F1,rr (R608). -/
def execCarsF1 (rr : Byte) (s : State) : Host.Outcome State Fault Refusal :=
  conclude (call .f1 (sext16 rr) s)

/-- CARS F2,rr (R608). -/
def execCarsF2 (rr : Byte) (s : State) : Host.Outcome State Fault Refusal :=
  conclude (call .f2 (sext16 rr) s)

/-- CARS F3,rr (R608). -/
def execCarsF3 (rr : Byte) (s : State) : Host.Outcome State Fault Refusal :=
  conclude (call .f3 (sext16 rr) s)

/-- CARS NF0,rr (R608). -/
def execCarsNf0 (rr : Byte) (s : State) : Host.Outcome State Fault Refusal :=
  conclude (call .nf0 (sext16 rr) s)

/-- CARS NF1,rr (R608). -/
def execCarsNf1 (rr : Byte) (s : State) : Host.Outcome State Fault Refusal :=
  conclude (call .nf1 (sext16 rr) s)

/-- CARS NF2,rr (R608). -/
def execCarsNf2 (rr : Byte) (s : State) : Host.Outcome State Fault Refusal :=
  conclude (call .nf2 (sext16 rr) s)

/-- CARS NF3,rr (R608). -/
def execCarsNf3 (rr : Byte) (s : State) : Host.Outcome State Fault Refusal :=
  conclude (call .nf3 (sext16 rr) s)

end Sys2Proof.Machine
end

