-- ==== Sys2Proof/Machine/Logic8.lean ====
section
/-! DEFINITION. 8-bit logic (spec/41_logic8.md): AND, OR, XOR, BIT, CPL. The shared operations first, then one meaning per instruction. A meaning sees PC = `pc_next` (log 32). -/

namespace Sys2Proof.Machine

/-- AND, OR, XOR (R230): the source is read before the destination (R247), N and Z written. -/
def logic8 (op : LogicOp) (dst : Loc8) (src : Src8) (s : State) : Result State := do
  let (b, s1) ← src.read s
  let (a, s2) ← dst.read s1
  let t ← dst.write (op.eval a b) s2
  .ok (t.setNZ (op.eval a b))

/-- AND, OR, XOR SC,#nn (R231): all eight flags are the result's bits. -/
def logicSc (op : LogicOp) (nn : Byte) (s : State) : Result State :=
  .ok (s.setSc (op.eval s.sc nn))

/-- BIT: N and Z of the AND, nothing else (R280 to R284). -/
def bitTest (dst : Loc8) (src : Src8) (s : State) : Result State := do
  let (b, s1) ← src.read s
  let (a, s2) ← dst.read s1
  .ok (s2.setNZ (a &&& b))

/-- CPL (R285 to R287). -/
def complement8 (loc : Loc8) (s : State) : Result State := do
  let (x, s1) ← loc.read s
  let t ← loc.write (~~~x) s1
  .ok (t.setNZ (~~~x))

/-- AND A,A (R232). -/
def execAndAA (s : State) : Host.Outcome State Fault Refusal :=
  conclude (logic8 .and (.reg .a) (.reg .a) s)

/-- AND A,B (R232). -/
def execAndAB (s : State) : Host.Outcome State Fault Refusal :=
  conclude (logic8 .and (.reg .a) (.reg .b) s)

/-- AND A,#nn (R233). -/
def execAndAImm (nn : Byte) (s : State) : Host.Outcome State Fault Refusal :=
  conclude (logic8 .and (.reg .a) (.imm nn) s)

/-- AND A,[HL] (R236). -/
def execAndAMHl (s : State) : Host.Outcome State Fault Refusal :=
  conclude (logic8 .and (.reg .a) (.mem .hl) s)

/-- AND A,[BR:ll] (R234). -/
def execAndAMBr (ll : Byte) (s : State) : Host.Outcome State Fault Refusal :=
  conclude (logic8 .and (.reg .a) (.mem (.br ll)) s)

/-- AND A,[hhll] (R235). -/
def execAndAMAbs (hhll : Word) (s : State) : Host.Outcome State Fault Refusal :=
  conclude (logic8 .and (.reg .a) (.mem (.abs hhll)) s)

/-- AND A,[IX] (R237). -/
def execAndAMIx (s : State) : Host.Outcome State Fault Refusal :=
  conclude (logic8 .and (.reg .a) (.mem .ix) s)

/-- AND A,[IY] (R237). -/
def execAndAMIy (s : State) : Host.Outcome State Fault Refusal :=
  conclude (logic8 .and (.reg .a) (.mem .iy) s)

/-- OR A,A (R248). -/
def execOrAA (s : State) : Host.Outcome State Fault Refusal :=
  conclude (logic8 .or (.reg .a) (.reg .a) s)

/-- OR A,B (R248). -/
def execOrAB (s : State) : Host.Outcome State Fault Refusal :=
  conclude (logic8 .or (.reg .a) (.reg .b) s)

/-- OR A,#nn (R249). -/
def execOrAImm (nn : Byte) (s : State) : Host.Outcome State Fault Refusal :=
  conclude (logic8 .or (.reg .a) (.imm nn) s)

/-- OR A,[HL] (R252). -/
def execOrAMHl (s : State) : Host.Outcome State Fault Refusal :=
  conclude (logic8 .or (.reg .a) (.mem .hl) s)

/-- OR A,[BR:ll] (R250). -/
def execOrAMBr (ll : Byte) (s : State) : Host.Outcome State Fault Refusal :=
  conclude (logic8 .or (.reg .a) (.mem (.br ll)) s)

/-- OR A,[hhll] (R251). -/
def execOrAMAbs (hhll : Word) (s : State) : Host.Outcome State Fault Refusal :=
  conclude (logic8 .or (.reg .a) (.mem (.abs hhll)) s)

/-- OR A,[IX] (R253). -/
def execOrAMIx (s : State) : Host.Outcome State Fault Refusal :=
  conclude (logic8 .or (.reg .a) (.mem .ix) s)

/-- OR A,[IY] (R253). -/
def execOrAMIy (s : State) : Host.Outcome State Fault Refusal :=
  conclude (logic8 .or (.reg .a) (.mem .iy) s)

/-- XOR A,A (R264). -/
def execXorAA (s : State) : Host.Outcome State Fault Refusal :=
  conclude (logic8 .xor (.reg .a) (.reg .a) s)

/-- XOR A,B (R264). -/
def execXorAB (s : State) : Host.Outcome State Fault Refusal :=
  conclude (logic8 .xor (.reg .a) (.reg .b) s)

/-- XOR A,#nn (R265). -/
def execXorAImm (nn : Byte) (s : State) : Host.Outcome State Fault Refusal :=
  conclude (logic8 .xor (.reg .a) (.imm nn) s)

/-- XOR A,[HL] (R268). -/
def execXorAMHl (s : State) : Host.Outcome State Fault Refusal :=
  conclude (logic8 .xor (.reg .a) (.mem .hl) s)

/-- XOR A,[BR:ll] (R266). -/
def execXorAMBr (ll : Byte) (s : State) : Host.Outcome State Fault Refusal :=
  conclude (logic8 .xor (.reg .a) (.mem (.br ll)) s)

/-- XOR A,[hhll] (R267). -/
def execXorAMAbs (hhll : Word) (s : State) : Host.Outcome State Fault Refusal :=
  conclude (logic8 .xor (.reg .a) (.mem (.abs hhll)) s)

/-- XOR A,[IX] (R269). -/
def execXorAMIx (s : State) : Host.Outcome State Fault Refusal :=
  conclude (logic8 .xor (.reg .a) (.mem .ix) s)

/-- XOR A,[IY] (R269). -/
def execXorAMIy (s : State) : Host.Outcome State Fault Refusal :=
  conclude (logic8 .xor (.reg .a) (.mem .iy) s)

/-- BIT A,B (R280). -/
def execBitAB (s : State) : Host.Outcome State Fault Refusal :=
  conclude (bitTest (.reg .a) (.reg .b) s)

/-- BIT [HL],#nn (R284). -/
def execBitMHlImm (nn : Byte) (s : State) : Host.Outcome State Fault Refusal :=
  conclude (bitTest (.mem .hl) (.imm nn) s)

/-- BIT A,#nn (R281). -/
def execBitAImm (nn : Byte) (s : State) : Host.Outcome State Fault Refusal :=
  conclude (bitTest (.reg .a) (.imm nn) s)

/-- BIT B,#nn (R282). -/
def execBitBImm (nn : Byte) (s : State) : Host.Outcome State Fault Refusal :=
  conclude (bitTest (.reg .b) (.imm nn) s)

/-- AND SC,#nn (R243). -/
def execAndScImm (nn : Byte) (s : State) : Host.Outcome State Fault Refusal :=
  conclude (logicSc .and nn s)

/-- OR SC,#nn (R259). -/
def execOrScImm (nn : Byte) (s : State) : Host.Outcome State Fault Refusal :=
  conclude (logicSc .or nn s)

/-- XOR SC,#nn (R275). -/
def execXorScImm (nn : Byte) (s : State) : Host.Outcome State Fault Refusal :=
  conclude (logicSc .xor nn s)

/-- AND [BR:ll],#nn (R244). -/
def execAndMBrImm (ll : Byte) (nn : Byte) (s : State) : Host.Outcome State Fault Refusal :=
  conclude (logic8 .and (.mem (.br ll)) (.imm nn) s)

/-- OR [BR:ll],#nn (R260). -/
def execOrMBrImm (ll : Byte) (nn : Byte) (s : State) : Host.Outcome State Fault Refusal :=
  conclude (logic8 .or (.mem (.br ll)) (.imm nn) s)

/-- XOR [BR:ll],#nn (R276). -/
def execXorMBrImm (ll : Byte) (nn : Byte) (s : State) : Host.Outcome State Fault Refusal :=
  conclude (logic8 .xor (.mem (.br ll)) (.imm nn) s)

/-- BIT [BR:ll],#nn (R283). -/
def execBitMBrImm (ll : Byte) (nn : Byte) (s : State) : Host.Outcome State Fault Refusal :=
  conclude (bitTest (.mem (.br ll)) (.imm nn) s)

/-- AND A,[IX+dd] (R238). -/
def execAndAMIxDd (dd : Byte) (s : State) : Host.Outcome State Fault Refusal :=
  conclude (logic8 .and (.reg .a) (.mem (.ixd dd)) s)

/-- AND A,[IY+dd] (R238). -/
def execAndAMIyDd (dd : Byte) (s : State) : Host.Outcome State Fault Refusal :=
  conclude (logic8 .and (.reg .a) (.mem (.iyd dd)) s)

/-- AND A,[IX+L] (R239). -/
def execAndAMIxL (s : State) : Host.Outcome State Fault Refusal :=
  conclude (logic8 .and (.reg .a) (.mem .ixl) s)

/-- AND A,[IY+L] (R239). -/
def execAndAMIyL (s : State) : Host.Outcome State Fault Refusal :=
  conclude (logic8 .and (.reg .a) (.mem .iyl) s)

/-- AND [HL],A (R245). -/
def execAndMHlA (s : State) : Host.Outcome State Fault Refusal :=
  conclude (logic8 .and (.mem .hl) (.reg .a) s)

/-- AND [HL],#nn (R246). -/
def execAndMHlImm (nn : Byte) (s : State) : Host.Outcome State Fault Refusal :=
  conclude (logic8 .and (.mem .hl) (.imm nn) s)

/-- AND [HL],[IX] (R247). -/
def execAndMHlMIx (s : State) : Host.Outcome State Fault Refusal :=
  conclude (logic8 .and (.mem .hl) (.mem .ix) s)

/-- AND [HL],[IY] (R247). -/
def execAndMHlMIy (s : State) : Host.Outcome State Fault Refusal :=
  conclude (logic8 .and (.mem .hl) (.mem .iy) s)

/-- OR A,[IX+dd] (R254). -/
def execOrAMIxDd (dd : Byte) (s : State) : Host.Outcome State Fault Refusal :=
  conclude (logic8 .or (.reg .a) (.mem (.ixd dd)) s)

/-- OR A,[IY+dd] (R254). -/
def execOrAMIyDd (dd : Byte) (s : State) : Host.Outcome State Fault Refusal :=
  conclude (logic8 .or (.reg .a) (.mem (.iyd dd)) s)

/-- OR A,[IX+L] (R255). -/
def execOrAMIxL (s : State) : Host.Outcome State Fault Refusal :=
  conclude (logic8 .or (.reg .a) (.mem .ixl) s)

/-- OR A,[IY+L] (R255). -/
def execOrAMIyL (s : State) : Host.Outcome State Fault Refusal :=
  conclude (logic8 .or (.reg .a) (.mem .iyl) s)

/-- OR [HL],A (R261). -/
def execOrMHlA (s : State) : Host.Outcome State Fault Refusal :=
  conclude (logic8 .or (.mem .hl) (.reg .a) s)

/-- OR [HL],#nn (R262). -/
def execOrMHlImm (nn : Byte) (s : State) : Host.Outcome State Fault Refusal :=
  conclude (logic8 .or (.mem .hl) (.imm nn) s)

/-- OR [HL],[IX] (R263). -/
def execOrMHlMIx (s : State) : Host.Outcome State Fault Refusal :=
  conclude (logic8 .or (.mem .hl) (.mem .ix) s)

/-- OR [HL],[IY] (R263). -/
def execOrMHlMIy (s : State) : Host.Outcome State Fault Refusal :=
  conclude (logic8 .or (.mem .hl) (.mem .iy) s)

/-- XOR A,[IX+dd] (R270). -/
def execXorAMIxDd (dd : Byte) (s : State) : Host.Outcome State Fault Refusal :=
  conclude (logic8 .xor (.reg .a) (.mem (.ixd dd)) s)

/-- XOR A,[IY+dd] (R270). -/
def execXorAMIyDd (dd : Byte) (s : State) : Host.Outcome State Fault Refusal :=
  conclude (logic8 .xor (.reg .a) (.mem (.iyd dd)) s)

/-- XOR A,[IX+L] (R271). -/
def execXorAMIxL (s : State) : Host.Outcome State Fault Refusal :=
  conclude (logic8 .xor (.reg .a) (.mem .ixl) s)

/-- XOR A,[IY+L] (R271). -/
def execXorAMIyL (s : State) : Host.Outcome State Fault Refusal :=
  conclude (logic8 .xor (.reg .a) (.mem .iyl) s)

/-- XOR [HL],A (R277). -/
def execXorMHlA (s : State) : Host.Outcome State Fault Refusal :=
  conclude (logic8 .xor (.mem .hl) (.reg .a) s)

/-- XOR [HL],#nn (R278). -/
def execXorMHlImm (nn : Byte) (s : State) : Host.Outcome State Fault Refusal :=
  conclude (logic8 .xor (.mem .hl) (.imm nn) s)

/-- XOR [HL],[IX] (R279). -/
def execXorMHlMIx (s : State) : Host.Outcome State Fault Refusal :=
  conclude (logic8 .xor (.mem .hl) (.mem .ix) s)

/-- XOR [HL],[IY] (R279). -/
def execXorMHlMIy (s : State) : Host.Outcome State Fault Refusal :=
  conclude (logic8 .xor (.mem .hl) (.mem .iy) s)

/-- CPL A (R285). -/
def execCplA (s : State) : Host.Outcome State Fault Refusal :=
  conclude (complement8 (.reg .a) s)

/-- CPL B (R285). -/
def execCplB (s : State) : Host.Outcome State Fault Refusal :=
  conclude (complement8 (.reg .b) s)

/-- CPL [BR:ll] (R286). -/
def execCplMBr (ll : Byte) (s : State) : Host.Outcome State Fault Refusal :=
  conclude (complement8 (.mem (.br ll)) s)

/-- CPL [HL] (R287). -/
def execCplMHl (s : State) : Host.Outcome State Fault Refusal :=
  conclude (complement8 (.mem .hl) s)

/-- AND B,#nn (R240). -/
def execAndBImm (nn : Byte) (s : State) : Host.Outcome State Fault Refusal :=
  conclude (logic8 .and (.reg .b) (.imm nn) s)

/-- AND L,#nn (R241). -/
def execAndLImm (nn : Byte) (s : State) : Host.Outcome State Fault Refusal :=
  conclude (logic8 .and (.reg .l) (.imm nn) s)

/-- AND H,#nn (R242). -/
def execAndHImm (nn : Byte) (s : State) : Host.Outcome State Fault Refusal :=
  conclude (logic8 .and (.reg .h) (.imm nn) s)

/-- OR B,#nn (R256). -/
def execOrBImm (nn : Byte) (s : State) : Host.Outcome State Fault Refusal :=
  conclude (logic8 .or (.reg .b) (.imm nn) s)

/-- OR L,#nn (R257). -/
def execOrLImm (nn : Byte) (s : State) : Host.Outcome State Fault Refusal :=
  conclude (logic8 .or (.reg .l) (.imm nn) s)

/-- OR H,#nn (R258). -/
def execOrHImm (nn : Byte) (s : State) : Host.Outcome State Fault Refusal :=
  conclude (logic8 .or (.reg .h) (.imm nn) s)

/-- XOR B,#nn (R272). -/
def execXorBImm (nn : Byte) (s : State) : Host.Outcome State Fault Refusal :=
  conclude (logic8 .xor (.reg .b) (.imm nn) s)

/-- XOR L,#nn (R273). -/
def execXorLImm (nn : Byte) (s : State) : Host.Outcome State Fault Refusal :=
  conclude (logic8 .xor (.reg .l) (.imm nn) s)

/-- XOR H,#nn (R274). -/
def execXorHImm (nn : Byte) (s : State) : Host.Outcome State Fault Refusal :=
  conclude (logic8 .xor (.reg .h) (.imm nn) s)

end Sys2Proof.Machine
end

