-- ==== Sys2Proof/Machine/Stack.lean ====
section
/-! DEFINITION. Stack control (spec/46_stack.md): PUSH, POP. The shared operations first, then one meaning per instruction. A meaning sees PC = `pc_next` (log 32). -/

namespace Sys2Proof.Machine

/-- PUSH of one byte (R551, R553, R554, R556). -/
def pushReg8 (r : Reg8) (s : State) : Result State := push8 (s.get8 r) s

/-- POP of one byte (R559, R561, R562, R564). -/
def popReg8 (r : Reg8) (s : State) : Result State := do
  let (v, t) ← pop8 s
  .ok (t.set8 r v)

/-- PUSH rp (R552): upper byte first. -/
def pushReg16 (r : Reg16) (s : State) : Result State := push16 (s.get16 r) s

/-- POP rp (R560): lower byte first. -/
def popReg16 (r : Reg16) (s : State) : Result State := do
  let (v, t) ← pop16 s
  .ok (t.set16 r v)

/-- PUSH IP (R555): XP, then YP. -/
def pushIp (s : State) : Result State := do
  let t ← pushReg8 .xp s
  pushReg8 .yp t

/-- POP IP (R563): YP, then XP. -/
def popIp (s : State) : Result State := do
  let t ← popReg8 .yp s
  popReg8 .xp t

/-- PUSH ALL (R557): BA, HL, IX, IY, BR. -/
def pushAll (s : State) : Result State := do
  let t ← pushReg16 .ba s
  let t ← pushReg16 .hl t
  let t ← pushReg16 .ix t
  let t ← pushReg16 .iy t
  pushReg8 .br t

/-- POP ALL (R565): BR, IY, IX, HL, BA. -/
def popAll (s : State) : Result State := do
  let t ← popReg8 .br s
  let t ← popReg16 .iy t
  let t ← popReg16 .ix t
  let t ← popReg16 .hl t
  popReg16 .ba t

/-- PUSH ALE (R558): PUSH ALL, then EP, XP, YP. -/
def pushAle (s : State) : Result State := do
  let t ← pushAll s
  let t ← pushReg8 .ep t
  pushIp t

/-- POP ALE (R566): YP, XP, EP, then POP ALL. -/
def popAle (s : State) : Result State := do
  let t ← popIp s
  let t ← popReg8 .ep t
  popAll t

/-- PUSH BA (R552). -/
def execPushBa (s : State) : Host.Outcome State Fault Refusal :=
  conclude (pushReg16 .ba s)

/-- PUSH HL (R552). -/
def execPushHl (s : State) : Host.Outcome State Fault Refusal :=
  conclude (pushReg16 .hl s)

/-- PUSH IX (R552). -/
def execPushIx (s : State) : Host.Outcome State Fault Refusal :=
  conclude (pushReg16 .ix s)

/-- PUSH IY (R552). -/
def execPushIy (s : State) : Host.Outcome State Fault Refusal :=
  conclude (pushReg16 .iy s)

/-- PUSH BR (R553). -/
def execPushBr (s : State) : Host.Outcome State Fault Refusal :=
  conclude (pushReg8 .br s)

/-- PUSH EP (R554). MODEL2 and MODEL3 only (U4). -/
def execPushEp (s : State) : Host.Outcome State Fault Refusal :=
  conclude (requires .expansion s (pushReg8 .ep s))

/-- PUSH IP (R555). MODEL2 and MODEL3 only (U4). -/
def execPushIp (s : State) : Host.Outcome State Fault Refusal :=
  conclude (requires .expansion s (pushIp s))

/-- PUSH SC (R556). -/
def execPushSc (s : State) : Host.Outcome State Fault Refusal :=
  conclude (pushReg8 .sc s)

/-- POP BA (R560). -/
def execPopBa (s : State) : Host.Outcome State Fault Refusal :=
  conclude (popReg16 .ba s)

/-- POP HL (R560). -/
def execPopHl (s : State) : Host.Outcome State Fault Refusal :=
  conclude (popReg16 .hl s)

/-- POP IX (R560). -/
def execPopIx (s : State) : Host.Outcome State Fault Refusal :=
  conclude (popReg16 .ix s)

/-- POP IY (R560). -/
def execPopIy (s : State) : Host.Outcome State Fault Refusal :=
  conclude (popReg16 .iy s)

/-- POP BR (R561). -/
def execPopBr (s : State) : Host.Outcome State Fault Refusal :=
  conclude (popReg8 .br s)

/-- POP EP (R562). MODEL2 and MODEL3 only (U4). -/
def execPopEp (s : State) : Host.Outcome State Fault Refusal :=
  conclude (requires .expansion s (popReg8 .ep s))

/-- POP IP (R563). MODEL2 and MODEL3 only (U4). -/
def execPopIp (s : State) : Host.Outcome State Fault Refusal :=
  conclude (requires .expansion s (popIp s))

/-- POP SC (R564). -/
def execPopSc (s : State) : Host.Outcome State Fault Refusal :=
  conclude (popReg8 .sc s)

/-- PUSH A (R551). -/
def execPushA (s : State) : Host.Outcome State Fault Refusal :=
  conclude (pushReg8 .a s)

/-- PUSH B (R551). -/
def execPushB (s : State) : Host.Outcome State Fault Refusal :=
  conclude (pushReg8 .b s)

/-- PUSH L (R551). -/
def execPushL (s : State) : Host.Outcome State Fault Refusal :=
  conclude (pushReg8 .l s)

/-- PUSH H (R551). -/
def execPushH (s : State) : Host.Outcome State Fault Refusal :=
  conclude (pushReg8 .h s)

/-- POP A (R559). -/
def execPopA (s : State) : Host.Outcome State Fault Refusal :=
  conclude (popReg8 .a s)

/-- POP B (R559). -/
def execPopB (s : State) : Host.Outcome State Fault Refusal :=
  conclude (popReg8 .b s)

/-- POP L (R559). -/
def execPopL (s : State) : Host.Outcome State Fault Refusal :=
  conclude (popReg8 .l s)

/-- POP H (R559). -/
def execPopH (s : State) : Host.Outcome State Fault Refusal :=
  conclude (popReg8 .h s)

/-- PUSH ALL (R557). -/
def execPushAll (s : State) : Host.Outcome State Fault Refusal :=
  conclude (pushAll s)

/-- PUSH ALE (R558). MODEL2 and MODEL3 only (U4). -/
def execPushAle (s : State) : Host.Outcome State Fault Refusal :=
  conclude (requires .expansion s (pushAle s))

/-- POP ALL (R565). -/
def execPopAll (s : State) : Host.Outcome State Fault Refusal :=
  conclude (popAll s)

/-- POP ALE (R566). MODEL2 and MODEL3 only (U4). -/
def execPopAle (s : State) : Host.Outcome State Fault Refusal :=
  conclude (requires .expansion s (popAle s))

end Sys2Proof.Machine
end

