-- ==== Sys2Proof/Machine/System.lean ====
section
/-! DEFINITION. System control (spec/48_system.md): NOP, HALT, SLP. The shared operations first, then one meaning per instruction. A meaning sees PC = `pc_next` (log 32). -/

namespace Sys2Proof.Machine

/-- NOP (R640): the PC has advanced, nothing else happens. -/
def noOperation (s : State) : Result State := .ok s

/-- HALT (R641). -/
def enterHalt (s : State) : Result State := .ok (s.setStatus .halt)

/-- SLP (R642). -/
def enterSleep (s : State) : Result State := .ok (s.setStatus .sleep)

/-- NOP (R640). -/
def execNop (s : State) : Host.Outcome State Fault Refusal :=
  conclude (noOperation s)

/-- HALT (R641). -/
def execHalt (s : State) : Host.Outcome State Fault Refusal :=
  conclude (enterHalt s)

/-- SLP (R642). -/
def execSlp (s : State) : Host.Outcome State Fault Refusal :=
  conclude (enterSleep s)

end Sys2Proof.Machine
end

