-- ==== Sys2Proof/Machine/Transfer16.lean ====
section
/-! DEFINITION. 16-bit transfers (spec/43_transfer16.md): LD, EX BA,rp. The shared operations first, then one meaning per instruction. A meaning sees PC = `pc_next` (log 32). -/

namespace Sys2Proof.Machine

/-- LD of 16 bits (R391 to R412); no flag. -/
def load16 (dst : Loc16) (src : Src16) (s : State) : Result State := do
  let (v, s1) ← src.read s
  dst.write v s1

/-- EX BA,rp (R413). -/
def exchangeBa (rp : Reg16) (s : State) : Result State := .ok ((s.set16 .ba (s.get16 rp)).set16 rp s.ba)

/-- LD BA,[hhll] (R407). -/
def execLdBaMAbs (hhll : Word) (s : State) : Host.Outcome State Fault Refusal :=
  conclude (load16 (.reg .ba) (.mem (.abs hhll)) s)

/-- LD HL,[hhll] (R407). -/
def execLdHlMAbs (hhll : Word) (s : State) : Host.Outcome State Fault Refusal :=
  conclude (load16 (.reg .hl) (.mem (.abs hhll)) s)

/-- LD IX,[hhll] (R407). -/
def execLdIxMAbs (hhll : Word) (s : State) : Host.Outcome State Fault Refusal :=
  conclude (load16 (.reg .ix) (.mem (.abs hhll)) s)

/-- LD IY,[hhll] (R407). -/
def execLdIyMAbs (hhll : Word) (s : State) : Host.Outcome State Fault Refusal :=
  conclude (load16 (.reg .iy) (.mem (.abs hhll)) s)

/-- LD [hhll],BA (R399). -/
def execLdMAbsBa (hhll : Word) (s : State) : Host.Outcome State Fault Refusal :=
  conclude (load16 (.mem (.abs hhll)) (.reg .ba) s)

/-- LD [hhll],HL (R399). -/
def execLdMAbsHl (hhll : Word) (s : State) : Host.Outcome State Fault Refusal :=
  conclude (load16 (.mem (.abs hhll)) (.reg .hl) s)

/-- LD [hhll],IX (R399). -/
def execLdMAbsIx (hhll : Word) (s : State) : Host.Outcome State Fault Refusal :=
  conclude (load16 (.mem (.abs hhll)) (.reg .ix) s)

/-- LD [hhll],IY (R399). -/
def execLdMAbsIy (hhll : Word) (s : State) : Host.Outcome State Fault Refusal :=
  conclude (load16 (.mem (.abs hhll)) (.reg .iy) s)

/-- LD BA,#mmnn (R405). -/
def execLdBaImm (mmnn : Word) (s : State) : Host.Outcome State Fault Refusal :=
  conclude (load16 (.reg .ba) (.imm mmnn) s)

/-- LD HL,#mmnn (R405). -/
def execLdHlImm (mmnn : Word) (s : State) : Host.Outcome State Fault Refusal :=
  conclude (load16 (.reg .hl) (.imm mmnn) s)

/-- LD IX,#mmnn (R405). -/
def execLdIxImm (mmnn : Word) (s : State) : Host.Outcome State Fault Refusal :=
  conclude (load16 (.reg .ix) (.imm mmnn) s)

/-- LD IY,#mmnn (R405). -/
def execLdIyImm (mmnn : Word) (s : State) : Host.Outcome State Fault Refusal :=
  conclude (load16 (.reg .iy) (.imm mmnn) s)

/-- EX BA,HL (R413). -/
def execExBaHl (s : State) : Host.Outcome State Fault Refusal :=
  conclude (exchangeBa .hl s)

/-- EX BA,IX (R413). -/
def execExBaIx (s : State) : Host.Outcome State Fault Refusal :=
  conclude (exchangeBa .ix s)

/-- EX BA,IY (R413). -/
def execExBaIy (s : State) : Host.Outcome State Fault Refusal :=
  conclude (exchangeBa .iy s)

/-- EX BA,SP (R413). -/
def execExBaSp (s : State) : Host.Outcome State Fault Refusal :=
  conclude (exchangeBa .sp s)

/-- LD SP,#mmnn (R406). -/
def execLdSpImm (mmnn : Word) (s : State) : Host.Outcome State Fault Refusal :=
  conclude (load16 (.reg .sp) (.imm mmnn) s)

/-- LD BA,[SP+dd] (R412). -/
def execLdBaMSpDd (dd : Byte) (s : State) : Host.Outcome State Fault Refusal :=
  conclude (load16 (.reg .ba) (.mem (.spd dd)) s)

/-- LD HL,[SP+dd] (R412). -/
def execLdHlMSpDd (dd : Byte) (s : State) : Host.Outcome State Fault Refusal :=
  conclude (load16 (.reg .hl) (.mem (.spd dd)) s)

/-- LD IX,[SP+dd] (R412). -/
def execLdIxMSpDd (dd : Byte) (s : State) : Host.Outcome State Fault Refusal :=
  conclude (load16 (.reg .ix) (.mem (.spd dd)) s)

/-- LD IY,[SP+dd] (R412). -/
def execLdIyMSpDd (dd : Byte) (s : State) : Host.Outcome State Fault Refusal :=
  conclude (load16 (.reg .iy) (.mem (.spd dd)) s)

/-- LD [SP+dd],BA (R404). -/
def execLdMSpDdBa (dd : Byte) (s : State) : Host.Outcome State Fault Refusal :=
  conclude (load16 (.mem (.spd dd)) (.reg .ba) s)

/-- LD [SP+dd],HL (R404). -/
def execLdMSpDdHl (dd : Byte) (s : State) : Host.Outcome State Fault Refusal :=
  conclude (load16 (.mem (.spd dd)) (.reg .hl) s)

/-- LD [SP+dd],IX (R404). -/
def execLdMSpDdIx (dd : Byte) (s : State) : Host.Outcome State Fault Refusal :=
  conclude (load16 (.mem (.spd dd)) (.reg .ix) s)

/-- LD [SP+dd],IY (R404). -/
def execLdMSpDdIy (dd : Byte) (s : State) : Host.Outcome State Fault Refusal :=
  conclude (load16 (.mem (.spd dd)) (.reg .iy) s)

/-- LD SP,[hhll] (R408). -/
def execLdSpMAbs (hhll : Word) (s : State) : Host.Outcome State Fault Refusal :=
  conclude (load16 (.reg .sp) (.mem (.abs hhll)) s)

/-- LD [hhll],SP (R400). -/
def execLdMAbsSp (hhll : Word) (s : State) : Host.Outcome State Fault Refusal :=
  conclude (load16 (.mem (.abs hhll)) (.reg .sp) s)

/-- LD BA,[HL] (R409). -/
def execLdBaMHl (s : State) : Host.Outcome State Fault Refusal :=
  conclude (load16 (.reg .ba) (.mem .hl) s)

/-- LD HL,[HL] (R409). -/
def execLdHlMHl (s : State) : Host.Outcome State Fault Refusal :=
  conclude (load16 (.reg .hl) (.mem .hl) s)

/-- LD IX,[HL] (R409). -/
def execLdIxMHl (s : State) : Host.Outcome State Fault Refusal :=
  conclude (load16 (.reg .ix) (.mem .hl) s)

/-- LD IY,[HL] (R409). -/
def execLdIyMHl (s : State) : Host.Outcome State Fault Refusal :=
  conclude (load16 (.reg .iy) (.mem .hl) s)

/-- LD [HL],BA (R401). -/
def execLdMHlBa (s : State) : Host.Outcome State Fault Refusal :=
  conclude (load16 (.mem .hl) (.reg .ba) s)

/-- LD [HL],HL (R401). -/
def execLdMHlHl (s : State) : Host.Outcome State Fault Refusal :=
  conclude (load16 (.mem .hl) (.reg .hl) s)

/-- LD [HL],IX (R401). -/
def execLdMHlIx (s : State) : Host.Outcome State Fault Refusal :=
  conclude (load16 (.mem .hl) (.reg .ix) s)

/-- LD [HL],IY (R401). -/
def execLdMHlIy (s : State) : Host.Outcome State Fault Refusal :=
  conclude (load16 (.mem .hl) (.reg .iy) s)

/-- LD BA,[IX] (R410). -/
def execLdBaMIx (s : State) : Host.Outcome State Fault Refusal :=
  conclude (load16 (.reg .ba) (.mem .ix) s)

/-- LD HL,[IX] (R410). -/
def execLdHlMIx (s : State) : Host.Outcome State Fault Refusal :=
  conclude (load16 (.reg .hl) (.mem .ix) s)

/-- LD IX,[IX] (R410). -/
def execLdIxMIx (s : State) : Host.Outcome State Fault Refusal :=
  conclude (load16 (.reg .ix) (.mem .ix) s)

/-- LD IY,[IX] (R410). -/
def execLdIyMIx (s : State) : Host.Outcome State Fault Refusal :=
  conclude (load16 (.reg .iy) (.mem .ix) s)

/-- LD [IX],BA (R402). -/
def execLdMIxBa (s : State) : Host.Outcome State Fault Refusal :=
  conclude (load16 (.mem .ix) (.reg .ba) s)

/-- LD [IX],HL (R402). -/
def execLdMIxHl (s : State) : Host.Outcome State Fault Refusal :=
  conclude (load16 (.mem .ix) (.reg .hl) s)

/-- LD [IX],IX (R402). -/
def execLdMIxIx (s : State) : Host.Outcome State Fault Refusal :=
  conclude (load16 (.mem .ix) (.reg .ix) s)

/-- LD [IX],IY (R402). -/
def execLdMIxIy (s : State) : Host.Outcome State Fault Refusal :=
  conclude (load16 (.mem .ix) (.reg .iy) s)

/-- LD BA,[IY] (R411). -/
def execLdBaMIy (s : State) : Host.Outcome State Fault Refusal :=
  conclude (load16 (.reg .ba) (.mem .iy) s)

/-- LD HL,[IY] (R411). -/
def execLdHlMIy (s : State) : Host.Outcome State Fault Refusal :=
  conclude (load16 (.reg .hl) (.mem .iy) s)

/-- LD IX,[IY] (R411). -/
def execLdIxMIy (s : State) : Host.Outcome State Fault Refusal :=
  conclude (load16 (.reg .ix) (.mem .iy) s)

/-- LD IY,[IY] (R411). -/
def execLdIyMIy (s : State) : Host.Outcome State Fault Refusal :=
  conclude (load16 (.reg .iy) (.mem .iy) s)

/-- LD [IY],BA (R403). -/
def execLdMIyBa (s : State) : Host.Outcome State Fault Refusal :=
  conclude (load16 (.mem .iy) (.reg .ba) s)

/-- LD [IY],HL (R403). -/
def execLdMIyHl (s : State) : Host.Outcome State Fault Refusal :=
  conclude (load16 (.mem .iy) (.reg .hl) s)

/-- LD [IY],IX (R403). -/
def execLdMIyIx (s : State) : Host.Outcome State Fault Refusal :=
  conclude (load16 (.mem .iy) (.reg .ix) s)

/-- LD [IY],IY (R403). -/
def execLdMIyIy (s : State) : Host.Outcome State Fault Refusal :=
  conclude (load16 (.mem .iy) (.reg .iy) s)

/-- LD BA,BA (R391). -/
def execLdBaBa (s : State) : Host.Outcome State Fault Refusal :=
  conclude (load16 (.reg .ba) (.reg .ba) s)

/-- LD BA,HL (R391). -/
def execLdBaHl (s : State) : Host.Outcome State Fault Refusal :=
  conclude (load16 (.reg .ba) (.reg .hl) s)

/-- LD BA,IX (R391). -/
def execLdBaIx (s : State) : Host.Outcome State Fault Refusal :=
  conclude (load16 (.reg .ba) (.reg .ix) s)

/-- LD BA,IY (R391). -/
def execLdBaIy (s : State) : Host.Outcome State Fault Refusal :=
  conclude (load16 (.reg .ba) (.reg .iy) s)

/-- LD HL,BA (R391). -/
def execLdHlBa (s : State) : Host.Outcome State Fault Refusal :=
  conclude (load16 (.reg .hl) (.reg .ba) s)

/-- LD HL,HL (R391). -/
def execLdHlHl (s : State) : Host.Outcome State Fault Refusal :=
  conclude (load16 (.reg .hl) (.reg .hl) s)

/-- LD HL,IX (R391). -/
def execLdHlIx (s : State) : Host.Outcome State Fault Refusal :=
  conclude (load16 (.reg .hl) (.reg .ix) s)

/-- LD HL,IY (R391). -/
def execLdHlIy (s : State) : Host.Outcome State Fault Refusal :=
  conclude (load16 (.reg .hl) (.reg .iy) s)

/-- LD IX,BA (R391). -/
def execLdIxBa (s : State) : Host.Outcome State Fault Refusal :=
  conclude (load16 (.reg .ix) (.reg .ba) s)

/-- LD IX,HL (R391). -/
def execLdIxHl (s : State) : Host.Outcome State Fault Refusal :=
  conclude (load16 (.reg .ix) (.reg .hl) s)

/-- LD IX,IX (R391). -/
def execLdIxIx (s : State) : Host.Outcome State Fault Refusal :=
  conclude (load16 (.reg .ix) (.reg .ix) s)

/-- LD IX,IY (R391). -/
def execLdIxIy (s : State) : Host.Outcome State Fault Refusal :=
  conclude (load16 (.reg .ix) (.reg .iy) s)

/-- LD IY,BA (R391). -/
def execLdIyBa (s : State) : Host.Outcome State Fault Refusal :=
  conclude (load16 (.reg .iy) (.reg .ba) s)

/-- LD IY,HL (R391). -/
def execLdIyHl (s : State) : Host.Outcome State Fault Refusal :=
  conclude (load16 (.reg .iy) (.reg .hl) s)

/-- LD IY,IX (R391). -/
def execLdIyIx (s : State) : Host.Outcome State Fault Refusal :=
  conclude (load16 (.reg .iy) (.reg .ix) s)

/-- LD IY,IY (R391). -/
def execLdIyIy (s : State) : Host.Outcome State Fault Refusal :=
  conclude (load16 (.reg .iy) (.reg .iy) s)

/-- LD SP,BA (R398). -/
def execLdSpBa (s : State) : Host.Outcome State Fault Refusal :=
  conclude (load16 (.reg .sp) (.reg .ba) s)

/-- LD SP,HL (R398). -/
def execLdSpHl (s : State) : Host.Outcome State Fault Refusal :=
  conclude (load16 (.reg .sp) (.reg .hl) s)

/-- LD SP,IX (R398). -/
def execLdSpIx (s : State) : Host.Outcome State Fault Refusal :=
  conclude (load16 (.reg .sp) (.reg .ix) s)

/-- LD SP,IY (R398). -/
def execLdSpIy (s : State) : Host.Outcome State Fault Refusal :=
  conclude (load16 (.reg .sp) (.reg .iy) s)

/-- LD HL,SP (R395). -/
def execLdHlSp (s : State) : Host.Outcome State Fault Refusal :=
  conclude (load16 (.reg .hl) (.reg .sp) s)

/-- LD HL,PC (R394). -/
def execLdHlPc (s : State) : Host.Outcome State Fault Refusal :=
  conclude (load16 (.reg .hl) .pc s)

/-- LD BA,SP (R393). -/
def execLdBaSp (s : State) : Host.Outcome State Fault Refusal :=
  conclude (load16 (.reg .ba) (.reg .sp) s)

/-- LD BA,PC (R392). -/
def execLdBaPc (s : State) : Host.Outcome State Fault Refusal :=
  conclude (load16 (.reg .ba) .pc s)

/-- LD IX,SP (R396). -/
def execLdIxSp (s : State) : Host.Outcome State Fault Refusal :=
  conclude (load16 (.reg .ix) (.reg .sp) s)

/-- LD IY,SP (R397). -/
def execLdIySp (s : State) : Host.Outcome State Fault Refusal :=
  conclude (load16 (.reg .iy) (.reg .sp) s)

end Sys2Proof.Machine
end

