-- ==== Sys2Proof/Machine/Transfer8.lean ====
section
/-! DEFINITION. 8-bit transfers (spec/42_transfer8.md): LD, EX A, SWAP. The shared operations first, then one meaning per instruction. A meaning sees PC = `pc_next` (log 32). -/

namespace Sys2Proof.Machine

/-- LD of 8 bits (R300 to R354): the source is read, then written; no flag but through SC. -/
def load8 (dst : Loc8) (src : Src8) (s : State) : Result State := do
  let (v, s1) ← src.read s
  dst.write v s1

/-- EX A,B (R355). -/
def exchangeAB (s : State) : Result State := .ok ((s.set8 .a s.b).set8 .b s.a)

/-- EX A,[HL] (R356): read, write, then A; the bus master can come between the two (R78). -/
def exchangeAHl (s : State) : Result State := do
  let (m, s1) ← readByte s (MemOp.hl.ea s)
  let t ← writeByte s1 (MemOp.hl.ea s1) s1.a
  .ok (t.set8 .a m)

/-- SWAP (R357, R358): the upper and lower four bits change places. -/
def swapDigits (loc : Loc8) (s : State) : Result State := do
  let (x, s1) ← loc.read s
  loc.write (loNibble x ++ hiNibble x) s1

/-- LD A,A (R301). -/
def execLdAA (s : State) : Host.Outcome State Fault Refusal :=
  conclude (load8 (.reg .a) (.reg .a) s)

/-- LD A,B (R301). -/
def execLdAB (s : State) : Host.Outcome State Fault Refusal :=
  conclude (load8 (.reg .a) (.reg .b) s)

/-- LD A,L (R301). -/
def execLdAL (s : State) : Host.Outcome State Fault Refusal :=
  conclude (load8 (.reg .a) (.reg .l) s)

/-- LD A,H (R301). -/
def execLdAH (s : State) : Host.Outcome State Fault Refusal :=
  conclude (load8 (.reg .a) (.reg .h) s)

/-- LD A,[BR:ll] (R327). -/
def execLdAMBr (ll : Byte) (s : State) : Host.Outcome State Fault Refusal :=
  conclude (load8 (.reg .a) (.mem (.br ll)) s)

/-- LD A,[HL] (R331). -/
def execLdAMHl (s : State) : Host.Outcome State Fault Refusal :=
  conclude (load8 (.reg .a) (.mem .hl) s)

/-- LD A,[IX] (R335). -/
def execLdAMIx (s : State) : Host.Outcome State Fault Refusal :=
  conclude (load8 (.reg .a) (.mem .ix) s)

/-- LD A,[IY] (R339). -/
def execLdAMIy (s : State) : Host.Outcome State Fault Refusal :=
  conclude (load8 (.reg .a) (.mem .iy) s)

/-- LD B,A (R301). -/
def execLdBA (s : State) : Host.Outcome State Fault Refusal :=
  conclude (load8 (.reg .b) (.reg .a) s)

/-- LD B,B (R301). -/
def execLdBB (s : State) : Host.Outcome State Fault Refusal :=
  conclude (load8 (.reg .b) (.reg .b) s)

/-- LD B,L (R301). -/
def execLdBL (s : State) : Host.Outcome State Fault Refusal :=
  conclude (load8 (.reg .b) (.reg .l) s)

/-- LD B,H (R301). -/
def execLdBH (s : State) : Host.Outcome State Fault Refusal :=
  conclude (load8 (.reg .b) (.reg .h) s)

/-- LD B,[BR:ll] (R327). -/
def execLdBMBr (ll : Byte) (s : State) : Host.Outcome State Fault Refusal :=
  conclude (load8 (.reg .b) (.mem (.br ll)) s)

/-- LD B,[HL] (R331). -/
def execLdBMHl (s : State) : Host.Outcome State Fault Refusal :=
  conclude (load8 (.reg .b) (.mem .hl) s)

/-- LD B,[IX] (R335). -/
def execLdBMIx (s : State) : Host.Outcome State Fault Refusal :=
  conclude (load8 (.reg .b) (.mem .ix) s)

/-- LD B,[IY] (R339). -/
def execLdBMIy (s : State) : Host.Outcome State Fault Refusal :=
  conclude (load8 (.reg .b) (.mem .iy) s)

/-- LD L,A (R301). -/
def execLdLA (s : State) : Host.Outcome State Fault Refusal :=
  conclude (load8 (.reg .l) (.reg .a) s)

/-- LD L,B (R301). -/
def execLdLB (s : State) : Host.Outcome State Fault Refusal :=
  conclude (load8 (.reg .l) (.reg .b) s)

/-- LD L,L (R301). -/
def execLdLL (s : State) : Host.Outcome State Fault Refusal :=
  conclude (load8 (.reg .l) (.reg .l) s)

/-- LD L,H (R301). -/
def execLdLH (s : State) : Host.Outcome State Fault Refusal :=
  conclude (load8 (.reg .l) (.reg .h) s)

/-- LD L,[BR:ll] (R327). -/
def execLdLMBr (ll : Byte) (s : State) : Host.Outcome State Fault Refusal :=
  conclude (load8 (.reg .l) (.mem (.br ll)) s)

/-- LD L,[HL] (R331). -/
def execLdLMHl (s : State) : Host.Outcome State Fault Refusal :=
  conclude (load8 (.reg .l) (.mem .hl) s)

/-- LD L,[IX] (R335). -/
def execLdLMIx (s : State) : Host.Outcome State Fault Refusal :=
  conclude (load8 (.reg .l) (.mem .ix) s)

/-- LD L,[IY] (R339). -/
def execLdLMIy (s : State) : Host.Outcome State Fault Refusal :=
  conclude (load8 (.reg .l) (.mem .iy) s)

/-- LD H,A (R301). -/
def execLdHA (s : State) : Host.Outcome State Fault Refusal :=
  conclude (load8 (.reg .h) (.reg .a) s)

/-- LD H,B (R301). -/
def execLdHB (s : State) : Host.Outcome State Fault Refusal :=
  conclude (load8 (.reg .h) (.reg .b) s)

/-- LD H,L (R301). -/
def execLdHL (s : State) : Host.Outcome State Fault Refusal :=
  conclude (load8 (.reg .h) (.reg .l) s)

/-- LD H,H (R301). -/
def execLdHH (s : State) : Host.Outcome State Fault Refusal :=
  conclude (load8 (.reg .h) (.reg .h) s)

/-- LD H,[BR:ll] (R327). -/
def execLdHMBr (ll : Byte) (s : State) : Host.Outcome State Fault Refusal :=
  conclude (load8 (.reg .h) (.mem (.br ll)) s)

/-- LD H,[HL] (R331). -/
def execLdHMHl (s : State) : Host.Outcome State Fault Refusal :=
  conclude (load8 (.reg .h) (.mem .hl) s)

/-- LD H,[IX] (R335). -/
def execLdHMIx (s : State) : Host.Outcome State Fault Refusal :=
  conclude (load8 (.reg .h) (.mem .ix) s)

/-- LD H,[IY] (R339). -/
def execLdHMIy (s : State) : Host.Outcome State Fault Refusal :=
  conclude (load8 (.reg .h) (.mem .iy) s)

/-- LD [IX],A (R311). -/
def execLdMIxA (s : State) : Host.Outcome State Fault Refusal :=
  conclude (load8 (.mem .ix) (.reg .a) s)

/-- LD [IX],B (R311). -/
def execLdMIxB (s : State) : Host.Outcome State Fault Refusal :=
  conclude (load8 (.mem .ix) (.reg .b) s)

/-- LD [IX],L (R311). -/
def execLdMIxL (s : State) : Host.Outcome State Fault Refusal :=
  conclude (load8 (.mem .ix) (.reg .l) s)

/-- LD [IX],H (R311). -/
def execLdMIxH (s : State) : Host.Outcome State Fault Refusal :=
  conclude (load8 (.mem .ix) (.reg .h) s)

/-- LD [IX],[BR:ll] (R329). -/
def execLdMIxMBr (ll : Byte) (s : State) : Host.Outcome State Fault Refusal :=
  conclude (load8 (.mem .ix) (.mem (.br ll)) s)

/-- LD [IX],[HL] (R334). -/
def execLdMIxMHl (s : State) : Host.Outcome State Fault Refusal :=
  conclude (load8 (.mem .ix) (.mem .hl) s)

/-- LD [IX],[IX] (R338). -/
def execLdMIxMIx (s : State) : Host.Outcome State Fault Refusal :=
  conclude (load8 (.mem .ix) (.mem .ix) s)

/-- LD [IX],[IY] (R342). -/
def execLdMIxMIy (s : State) : Host.Outcome State Fault Refusal :=
  conclude (load8 (.mem .ix) (.mem .iy) s)

/-- LD [HL],A (R310). -/
def execLdMHlA (s : State) : Host.Outcome State Fault Refusal :=
  conclude (load8 (.mem .hl) (.reg .a) s)

/-- LD [HL],B (R310). -/
def execLdMHlB (s : State) : Host.Outcome State Fault Refusal :=
  conclude (load8 (.mem .hl) (.reg .b) s)

/-- LD [HL],L (R310). -/
def execLdMHlL (s : State) : Host.Outcome State Fault Refusal :=
  conclude (load8 (.mem .hl) (.reg .l) s)

/-- LD [HL],H (R310). -/
def execLdMHlH (s : State) : Host.Outcome State Fault Refusal :=
  conclude (load8 (.mem .hl) (.reg .h) s)

/-- LD [HL],[BR:ll] (R328). -/
def execLdMHlMBr (ll : Byte) (s : State) : Host.Outcome State Fault Refusal :=
  conclude (load8 (.mem .hl) (.mem (.br ll)) s)

/-- LD [HL],[HL] (R333). -/
def execLdMHlMHl (s : State) : Host.Outcome State Fault Refusal :=
  conclude (load8 (.mem .hl) (.mem .hl) s)

/-- LD [HL],[IX] (R337). -/
def execLdMHlMIx (s : State) : Host.Outcome State Fault Refusal :=
  conclude (load8 (.mem .hl) (.mem .ix) s)

/-- LD [HL],[IY] (R341). -/
def execLdMHlMIy (s : State) : Host.Outcome State Fault Refusal :=
  conclude (load8 (.mem .hl) (.mem .iy) s)

/-- LD [IY],A (R312). -/
def execLdMIyA (s : State) : Host.Outcome State Fault Refusal :=
  conclude (load8 (.mem .iy) (.reg .a) s)

/-- LD [IY],B (R312). -/
def execLdMIyB (s : State) : Host.Outcome State Fault Refusal :=
  conclude (load8 (.mem .iy) (.reg .b) s)

/-- LD [IY],L (R312). -/
def execLdMIyL (s : State) : Host.Outcome State Fault Refusal :=
  conclude (load8 (.mem .iy) (.reg .l) s)

/-- LD [IY],H (R312). -/
def execLdMIyH (s : State) : Host.Outcome State Fault Refusal :=
  conclude (load8 (.mem .iy) (.reg .h) s)

/-- LD [IY],[BR:ll] (R329). -/
def execLdMIyMBr (ll : Byte) (s : State) : Host.Outcome State Fault Refusal :=
  conclude (load8 (.mem .iy) (.mem (.br ll)) s)

/-- LD [IY],[HL] (R334). -/
def execLdMIyMHl (s : State) : Host.Outcome State Fault Refusal :=
  conclude (load8 (.mem .iy) (.mem .hl) s)

/-- LD [IY],[IX] (R338). -/
def execLdMIyMIx (s : State) : Host.Outcome State Fault Refusal :=
  conclude (load8 (.mem .iy) (.mem .ix) s)

/-- LD [IY],[IY] (R342). -/
def execLdMIyMIy (s : State) : Host.Outcome State Fault Refusal :=
  conclude (load8 (.mem .iy) (.mem .iy) s)

/-- LD [BR:ll],A (R308). -/
def execLdMBrA (ll : Byte) (s : State) : Host.Outcome State Fault Refusal :=
  conclude (load8 (.mem (.br ll)) (.reg .a) s)

/-- LD [BR:ll],B (R308). -/
def execLdMBrB (ll : Byte) (s : State) : Host.Outcome State Fault Refusal :=
  conclude (load8 (.mem (.br ll)) (.reg .b) s)

/-- LD [BR:ll],L (R308). -/
def execLdMBrL (ll : Byte) (s : State) : Host.Outcome State Fault Refusal :=
  conclude (load8 (.mem (.br ll)) (.reg .l) s)

/-- LD [BR:ll],H (R308). -/
def execLdMBrH (ll : Byte) (s : State) : Host.Outcome State Fault Refusal :=
  conclude (load8 (.mem (.br ll)) (.reg .h) s)

/-- LD [BR:ll],[HL] (R332). -/
def execLdMBrMHl (ll : Byte) (s : State) : Host.Outcome State Fault Refusal :=
  conclude (load8 (.mem (.br ll)) (.mem .hl) s)

/-- LD [BR:ll],[IX] (R336). -/
def execLdMBrMIx (ll : Byte) (s : State) : Host.Outcome State Fault Refusal :=
  conclude (load8 (.mem (.br ll)) (.mem .ix) s)

/-- LD [BR:ll],[IY] (R340). -/
def execLdMBrMIy (ll : Byte) (s : State) : Host.Outcome State Fault Refusal :=
  conclude (load8 (.mem (.br ll)) (.mem .iy) s)

/-- LD SC,#nn (R319). -/
def execLdScImm (nn : Byte) (s : State) : Host.Outcome State Fault Refusal :=
  conclude (load8 (.reg .sc) (.imm nn) s)

/-- LD A,#nn (R317). -/
def execLdAImm (nn : Byte) (s : State) : Host.Outcome State Fault Refusal :=
  conclude (load8 (.reg .a) (.imm nn) s)

/-- LD B,#nn (R317). -/
def execLdBImm (nn : Byte) (s : State) : Host.Outcome State Fault Refusal :=
  conclude (load8 (.reg .b) (.imm nn) s)

/-- LD L,#nn (R317). -/
def execLdLImm (nn : Byte) (s : State) : Host.Outcome State Fault Refusal :=
  conclude (load8 (.reg .l) (.imm nn) s)

/-- LD H,#nn (R317). -/
def execLdHImm (nn : Byte) (s : State) : Host.Outcome State Fault Refusal :=
  conclude (load8 (.reg .h) (.imm nn) s)

/-- LD BR,#hh (R318). -/
def execLdBrImm (hh : Byte) (s : State) : Host.Outcome State Fault Refusal :=
  conclude (load8 (.reg .br) (.imm hh) s)

/-- LD [HL],#nn (R325). -/
def execLdMHlImm (nn : Byte) (s : State) : Host.Outcome State Fault Refusal :=
  conclude (load8 (.mem .hl) (.imm nn) s)

/-- LD [IX],#nn (R326). -/
def execLdMIxImm (nn : Byte) (s : State) : Host.Outcome State Fault Refusal :=
  conclude (load8 (.mem .ix) (.imm nn) s)

/-- LD [IY],#nn (R326). -/
def execLdMIyImm (nn : Byte) (s : State) : Host.Outcome State Fault Refusal :=
  conclude (load8 (.mem .iy) (.imm nn) s)

/-- EX A,B (R355). -/
def execExAB (s : State) : Host.Outcome State Fault Refusal :=
  conclude (exchangeAB s)

/-- EX A,[HL] (R356). -/
def execExAMHl (s : State) : Host.Outcome State Fault Refusal :=
  conclude (exchangeAHl s)

/-- LD [BR:ll],#nn (R324). -/
def execLdMBrImm (ll : Byte) (nn : Byte) (s : State) : Host.Outcome State Fault Refusal :=
  conclude (load8 (.mem (.br ll)) (.imm nn) s)

/-- SWAP A (R357). -/
def execSwapA (s : State) : Host.Outcome State Fault Refusal :=
  conclude (swapDigits (.reg .a) s)

/-- SWAP [HL] (R358). -/
def execSwapMHl (s : State) : Host.Outcome State Fault Refusal :=
  conclude (swapDigits (.mem .hl) s)

/-- LD A,[IX+dd] (R343). -/
def execLdAMIxDd (dd : Byte) (s : State) : Host.Outcome State Fault Refusal :=
  conclude (load8 (.reg .a) (.mem (.ixd dd)) s)

/-- LD A,[IY+dd] (R346). -/
def execLdAMIyDd (dd : Byte) (s : State) : Host.Outcome State Fault Refusal :=
  conclude (load8 (.reg .a) (.mem (.iyd dd)) s)

/-- LD A,[IX+L] (R349). -/
def execLdAMIxL (s : State) : Host.Outcome State Fault Refusal :=
  conclude (load8 (.reg .a) (.mem .ixl) s)

/-- LD A,[IY+L] (R352). -/
def execLdAMIyL (s : State) : Host.Outcome State Fault Refusal :=
  conclude (load8 (.reg .a) (.mem .iyl) s)

/-- LD [IX+dd],A (R313). -/
def execLdMIxDdA (dd : Byte) (s : State) : Host.Outcome State Fault Refusal :=
  conclude (load8 (.mem (.ixd dd)) (.reg .a) s)

/-- LD [IY+dd],A (R314). -/
def execLdMIyDdA (dd : Byte) (s : State) : Host.Outcome State Fault Refusal :=
  conclude (load8 (.mem (.iyd dd)) (.reg .a) s)

/-- LD [IX+L],A (R315). -/
def execLdMIxLA (s : State) : Host.Outcome State Fault Refusal :=
  conclude (load8 (.mem .ixl) (.reg .a) s)

/-- LD [IY+L],A (R316). -/
def execLdMIyLA (s : State) : Host.Outcome State Fault Refusal :=
  conclude (load8 (.mem .iyl) (.reg .a) s)

/-- LD B,[IX+dd] (R343). -/
def execLdBMIxDd (dd : Byte) (s : State) : Host.Outcome State Fault Refusal :=
  conclude (load8 (.reg .b) (.mem (.ixd dd)) s)

/-- LD B,[IY+dd] (R346). -/
def execLdBMIyDd (dd : Byte) (s : State) : Host.Outcome State Fault Refusal :=
  conclude (load8 (.reg .b) (.mem (.iyd dd)) s)

/-- LD B,[IX+L] (R349). -/
def execLdBMIxL (s : State) : Host.Outcome State Fault Refusal :=
  conclude (load8 (.reg .b) (.mem .ixl) s)

/-- LD B,[IY+L] (R352). -/
def execLdBMIyL (s : State) : Host.Outcome State Fault Refusal :=
  conclude (load8 (.reg .b) (.mem .iyl) s)

/-- LD [IX+dd],B (R313). -/
def execLdMIxDdB (dd : Byte) (s : State) : Host.Outcome State Fault Refusal :=
  conclude (load8 (.mem (.ixd dd)) (.reg .b) s)

/-- LD [IY+dd],B (R314). -/
def execLdMIyDdB (dd : Byte) (s : State) : Host.Outcome State Fault Refusal :=
  conclude (load8 (.mem (.iyd dd)) (.reg .b) s)

/-- LD [IX+L],B (R315). -/
def execLdMIxLB (s : State) : Host.Outcome State Fault Refusal :=
  conclude (load8 (.mem .ixl) (.reg .b) s)

/-- LD [IY+L],B (R316). -/
def execLdMIyLB (s : State) : Host.Outcome State Fault Refusal :=
  conclude (load8 (.mem .iyl) (.reg .b) s)

/-- LD L,[IX+dd] (R343). -/
def execLdLMIxDd (dd : Byte) (s : State) : Host.Outcome State Fault Refusal :=
  conclude (load8 (.reg .l) (.mem (.ixd dd)) s)

/-- LD L,[IY+dd] (R346). -/
def execLdLMIyDd (dd : Byte) (s : State) : Host.Outcome State Fault Refusal :=
  conclude (load8 (.reg .l) (.mem (.iyd dd)) s)

/-- LD L,[IX+L] (R349). -/
def execLdLMIxL (s : State) : Host.Outcome State Fault Refusal :=
  conclude (load8 (.reg .l) (.mem .ixl) s)

/-- LD L,[IY+L] (R352). -/
def execLdLMIyL (s : State) : Host.Outcome State Fault Refusal :=
  conclude (load8 (.reg .l) (.mem .iyl) s)

/-- LD [IX+dd],L (R313). -/
def execLdMIxDdL (dd : Byte) (s : State) : Host.Outcome State Fault Refusal :=
  conclude (load8 (.mem (.ixd dd)) (.reg .l) s)

/-- LD [IY+dd],L (R314). -/
def execLdMIyDdL (dd : Byte) (s : State) : Host.Outcome State Fault Refusal :=
  conclude (load8 (.mem (.iyd dd)) (.reg .l) s)

/-- LD [IX+L],L (R315). -/
def execLdMIxLL (s : State) : Host.Outcome State Fault Refusal :=
  conclude (load8 (.mem .ixl) (.reg .l) s)

/-- LD [IY+L],L (R316). -/
def execLdMIyLL (s : State) : Host.Outcome State Fault Refusal :=
  conclude (load8 (.mem .iyl) (.reg .l) s)

/-- LD H,[IX+dd] (R343). -/
def execLdHMIxDd (dd : Byte) (s : State) : Host.Outcome State Fault Refusal :=
  conclude (load8 (.reg .h) (.mem (.ixd dd)) s)

/-- LD H,[IY+dd] (R346). -/
def execLdHMIyDd (dd : Byte) (s : State) : Host.Outcome State Fault Refusal :=
  conclude (load8 (.reg .h) (.mem (.iyd dd)) s)

/-- LD H,[IX+L] (R349). -/
def execLdHMIxL (s : State) : Host.Outcome State Fault Refusal :=
  conclude (load8 (.reg .h) (.mem .ixl) s)

/-- LD H,[IY+L] (R352). -/
def execLdHMIyL (s : State) : Host.Outcome State Fault Refusal :=
  conclude (load8 (.reg .h) (.mem .iyl) s)

/-- LD [IX+dd],H (R313). -/
def execLdMIxDdH (dd : Byte) (s : State) : Host.Outcome State Fault Refusal :=
  conclude (load8 (.mem (.ixd dd)) (.reg .h) s)

/-- LD [IY+dd],H (R314). -/
def execLdMIyDdH (dd : Byte) (s : State) : Host.Outcome State Fault Refusal :=
  conclude (load8 (.mem (.iyd dd)) (.reg .h) s)

/-- LD [IX+L],H (R315). -/
def execLdMIxLH (s : State) : Host.Outcome State Fault Refusal :=
  conclude (load8 (.mem .ixl) (.reg .h) s)

/-- LD [IY+L],H (R316). -/
def execLdMIyLH (s : State) : Host.Outcome State Fault Refusal :=
  conclude (load8 (.mem .iyl) (.reg .h) s)

/-- LD [HL],[IX+dd] (R344). -/
def execLdMHlMIxDd (dd : Byte) (s : State) : Host.Outcome State Fault Refusal :=
  conclude (load8 (.mem .hl) (.mem (.ixd dd)) s)

/-- LD [HL],[IY+dd] (R347). -/
def execLdMHlMIyDd (dd : Byte) (s : State) : Host.Outcome State Fault Refusal :=
  conclude (load8 (.mem .hl) (.mem (.iyd dd)) s)

/-- LD [HL],[IX+L] (R350). -/
def execLdMHlMIxL (s : State) : Host.Outcome State Fault Refusal :=
  conclude (load8 (.mem .hl) (.mem .ixl) s)

/-- LD [HL],[IY+L] (R353). -/
def execLdMHlMIyL (s : State) : Host.Outcome State Fault Refusal :=
  conclude (load8 (.mem .hl) (.mem .iyl) s)

/-- LD [IX],[IX+dd] (R345). -/
def execLdMIxMIxDd (dd : Byte) (s : State) : Host.Outcome State Fault Refusal :=
  conclude (load8 (.mem .ix) (.mem (.ixd dd)) s)

/-- LD [IX],[IY+dd] (R348). -/
def execLdMIxMIyDd (dd : Byte) (s : State) : Host.Outcome State Fault Refusal :=
  conclude (load8 (.mem .ix) (.mem (.iyd dd)) s)

/-- LD [IX],[IX+L] (R351). -/
def execLdMIxMIxL (s : State) : Host.Outcome State Fault Refusal :=
  conclude (load8 (.mem .ix) (.mem .ixl) s)

/-- LD [IX],[IY+L] (R354). -/
def execLdMIxMIyL (s : State) : Host.Outcome State Fault Refusal :=
  conclude (load8 (.mem .ix) (.mem .iyl) s)

/-- LD [IY],[IX+dd] (R345). -/
def execLdMIyMIxDd (dd : Byte) (s : State) : Host.Outcome State Fault Refusal :=
  conclude (load8 (.mem .iy) (.mem (.ixd dd)) s)

/-- LD [IY],[IY+dd] (R348). -/
def execLdMIyMIyDd (dd : Byte) (s : State) : Host.Outcome State Fault Refusal :=
  conclude (load8 (.mem .iy) (.mem (.iyd dd)) s)

/-- LD [IY],[IX+L] (R351). -/
def execLdMIyMIxL (s : State) : Host.Outcome State Fault Refusal :=
  conclude (load8 (.mem .iy) (.mem .ixl) s)

/-- LD [IY],[IY+L] (R354). -/
def execLdMIyMIyL (s : State) : Host.Outcome State Fault Refusal :=
  conclude (load8 (.mem .iy) (.mem .iyl) s)

/-- LD A,BR (R302). -/
def execLdABr (s : State) : Host.Outcome State Fault Refusal :=
  conclude (load8 (.reg .a) (.reg .br) s)

/-- LD A,SC (R303). -/
def execLdASc (s : State) : Host.Outcome State Fault Refusal :=
  conclude (load8 (.reg .a) (.reg .sc) s)

/-- LD BR,A (R305). -/
def execLdBrA (s : State) : Host.Outcome State Fault Refusal :=
  conclude (load8 (.reg .br) (.reg .a) s)

/-- LD SC,A (R306). -/
def execLdScA (s : State) : Host.Outcome State Fault Refusal :=
  conclude (load8 (.reg .sc) (.reg .a) s)

/-- LD NB,#bb (R320). MODEL2 and MODEL3 only (U4). -/
def execLdNbImm (bb : Byte) (s : State) : Host.Outcome State Fault Refusal :=
  conclude (requires .expansion s (load8 (.reg .nb) (.imm bb) s))

/-- LD EP,#pp (R321). MODEL2 and MODEL3 only (U4). -/
def execLdEpImm (pp : Byte) (s : State) : Host.Outcome State Fault Refusal :=
  conclude (requires .expansion s (load8 (.reg .ep) (.imm pp) s))

/-- LD XP,#pp (R322). MODEL2 and MODEL3 only (U4). -/
def execLdXpImm (pp : Byte) (s : State) : Host.Outcome State Fault Refusal :=
  conclude (requires .expansion s (load8 (.reg .xp) (.imm pp) s))

/-- LD YP,#pp (R323). MODEL2 and MODEL3 only (U4). -/
def execLdYpImm (pp : Byte) (s : State) : Host.Outcome State Fault Refusal :=
  conclude (requires .expansion s (load8 (.reg .yp) (.imm pp) s))

/-- LD A,NB (R304). MODEL2 and MODEL3 only (U4). -/
def execLdANb (s : State) : Host.Outcome State Fault Refusal :=
  conclude (requires .expansion s (load8 (.reg .a) (.reg .nb) s))

/-- LD A,EP (R304). MODEL2 and MODEL3 only (U4). -/
def execLdAEp (s : State) : Host.Outcome State Fault Refusal :=
  conclude (requires .expansion s (load8 (.reg .a) (.reg .ep) s))

/-- LD A,XP (R304). MODEL2 and MODEL3 only (U4). -/
def execLdAXp (s : State) : Host.Outcome State Fault Refusal :=
  conclude (requires .expansion s (load8 (.reg .a) (.reg .xp) s))

/-- LD A,YP (R304). MODEL2 and MODEL3 only (U4). -/
def execLdAYp (s : State) : Host.Outcome State Fault Refusal :=
  conclude (requires .expansion s (load8 (.reg .a) (.reg .yp) s))

/-- LD NB,A (R307). MODEL2 and MODEL3 only (U4). -/
def execLdNbA (s : State) : Host.Outcome State Fault Refusal :=
  conclude (requires .expansion s (load8 (.reg .nb) (.reg .a) s))

/-- LD EP,A (R307). MODEL2 and MODEL3 only (U4). -/
def execLdEpA (s : State) : Host.Outcome State Fault Refusal :=
  conclude (requires .expansion s (load8 (.reg .ep) (.reg .a) s))

/-- LD XP,A (R307). MODEL2 and MODEL3 only (U4). -/
def execLdXpA (s : State) : Host.Outcome State Fault Refusal :=
  conclude (requires .expansion s (load8 (.reg .xp) (.reg .a) s))

/-- LD YP,A (R307). MODEL2 and MODEL3 only (U4). -/
def execLdYpA (s : State) : Host.Outcome State Fault Refusal :=
  conclude (requires .expansion s (load8 (.reg .yp) (.reg .a) s))

/-- LD A,[hhll] (R330). -/
def execLdAMAbs (hhll : Word) (s : State) : Host.Outcome State Fault Refusal :=
  conclude (load8 (.reg .a) (.mem (.abs hhll)) s)

/-- LD B,[hhll] (R330). -/
def execLdBMAbs (hhll : Word) (s : State) : Host.Outcome State Fault Refusal :=
  conclude (load8 (.reg .b) (.mem (.abs hhll)) s)

/-- LD L,[hhll] (R330). -/
def execLdLMAbs (hhll : Word) (s : State) : Host.Outcome State Fault Refusal :=
  conclude (load8 (.reg .l) (.mem (.abs hhll)) s)

/-- LD H,[hhll] (R330). -/
def execLdHMAbs (hhll : Word) (s : State) : Host.Outcome State Fault Refusal :=
  conclude (load8 (.reg .h) (.mem (.abs hhll)) s)

/-- LD [hhll],A (R309). -/
def execLdMAbsA (hhll : Word) (s : State) : Host.Outcome State Fault Refusal :=
  conclude (load8 (.mem (.abs hhll)) (.reg .a) s)

/-- LD [hhll],B (R309). -/
def execLdMAbsB (hhll : Word) (s : State) : Host.Outcome State Fault Refusal :=
  conclude (load8 (.mem (.abs hhll)) (.reg .b) s)

/-- LD [hhll],L (R309). -/
def execLdMAbsL (hhll : Word) (s : State) : Host.Outcome State Fault Refusal :=
  conclude (load8 (.mem (.abs hhll)) (.reg .l) s)

/-- LD [hhll],H (R309). -/
def execLdMAbsH (hhll : Word) (s : State) : Host.Outcome State Fault Refusal :=
  conclude (load8 (.mem (.abs hhll)) (.reg .h) s)

end Sys2Proof.Machine
end

