-- ==== Sys2Proof/Machine/Dispatch.lean ====
section
/-! DEFINITION. Dispatch: one arm per instruction, each one call of its meaning. -/

namespace Sys2Proof.Machine

/-- The meaning of an instruction in a state whose PC is already past it (R27, log 32). -/
def exec (i : Instr) (s : State) : Host.Outcome State Fault Refusal :=
  match i with
  | .addAA => Sys2Proof.Machine.execAddAA s
  | .addAB => Sys2Proof.Machine.execAddAB s
  | .addAImm nn => Sys2Proof.Machine.execAddAImm nn s
  | .addAMHl => Sys2Proof.Machine.execAddAMHl s
  | .addAMBr ll => Sys2Proof.Machine.execAddAMBr ll s
  | .addAMAbs hhll => Sys2Proof.Machine.execAddAMAbs hhll s
  | .addAMIx => Sys2Proof.Machine.execAddAMIx s
  | .addAMIy => Sys2Proof.Machine.execAddAMIy s
  | .adcAA => Sys2Proof.Machine.execAdcAA s
  | .adcAB => Sys2Proof.Machine.execAdcAB s
  | .adcAImm nn => Sys2Proof.Machine.execAdcAImm nn s
  | .adcAMHl => Sys2Proof.Machine.execAdcAMHl s
  | .adcAMBr ll => Sys2Proof.Machine.execAdcAMBr ll s
  | .adcAMAbs hhll => Sys2Proof.Machine.execAdcAMAbs hhll s
  | .adcAMIx => Sys2Proof.Machine.execAdcAMIx s
  | .adcAMIy => Sys2Proof.Machine.execAdcAMIy s
  | .subAA => Sys2Proof.Machine.execSubAA s
  | .subAB => Sys2Proof.Machine.execSubAB s
  | .subAImm nn => Sys2Proof.Machine.execSubAImm nn s
  | .subAMHl => Sys2Proof.Machine.execSubAMHl s
  | .subAMBr ll => Sys2Proof.Machine.execSubAMBr ll s
  | .subAMAbs hhll => Sys2Proof.Machine.execSubAMAbs hhll s
  | .subAMIx => Sys2Proof.Machine.execSubAMIx s
  | .subAMIy => Sys2Proof.Machine.execSubAMIy s
  | .sbcAA => Sys2Proof.Machine.execSbcAA s
  | .sbcAB => Sys2Proof.Machine.execSbcAB s
  | .sbcAImm nn => Sys2Proof.Machine.execSbcAImm nn s
  | .sbcAMHl => Sys2Proof.Machine.execSbcAMHl s
  | .sbcAMBr ll => Sys2Proof.Machine.execSbcAMBr ll s
  | .sbcAMAbs hhll => Sys2Proof.Machine.execSbcAMAbs hhll s
  | .sbcAMIx => Sys2Proof.Machine.execSbcAMIx s
  | .sbcAMIy => Sys2Proof.Machine.execSbcAMIy s
  | .andAA => Sys2Proof.Machine.execAndAA s
  | .andAB => Sys2Proof.Machine.execAndAB s
  | .andAImm nn => Sys2Proof.Machine.execAndAImm nn s
  | .andAMHl => Sys2Proof.Machine.execAndAMHl s
  | .andAMBr ll => Sys2Proof.Machine.execAndAMBr ll s
  | .andAMAbs hhll => Sys2Proof.Machine.execAndAMAbs hhll s
  | .andAMIx => Sys2Proof.Machine.execAndAMIx s
  | .andAMIy => Sys2Proof.Machine.execAndAMIy s
  | .orAA => Sys2Proof.Machine.execOrAA s
  | .orAB => Sys2Proof.Machine.execOrAB s
  | .orAImm nn => Sys2Proof.Machine.execOrAImm nn s
  | .orAMHl => Sys2Proof.Machine.execOrAMHl s
  | .orAMBr ll => Sys2Proof.Machine.execOrAMBr ll s
  | .orAMAbs hhll => Sys2Proof.Machine.execOrAMAbs hhll s
  | .orAMIx => Sys2Proof.Machine.execOrAMIx s
  | .orAMIy => Sys2Proof.Machine.execOrAMIy s
  | .cpAA => Sys2Proof.Machine.execCpAA s
  | .cpAB => Sys2Proof.Machine.execCpAB s
  | .cpAImm nn => Sys2Proof.Machine.execCpAImm nn s
  | .cpAMHl => Sys2Proof.Machine.execCpAMHl s
  | .cpAMBr ll => Sys2Proof.Machine.execCpAMBr ll s
  | .cpAMAbs hhll => Sys2Proof.Machine.execCpAMAbs hhll s
  | .cpAMIx => Sys2Proof.Machine.execCpAMIx s
  | .cpAMIy => Sys2Proof.Machine.execCpAMIy s
  | .xorAA => Sys2Proof.Machine.execXorAA s
  | .xorAB => Sys2Proof.Machine.execXorAB s
  | .xorAImm nn => Sys2Proof.Machine.execXorAImm nn s
  | .xorAMHl => Sys2Proof.Machine.execXorAMHl s
  | .xorAMBr ll => Sys2Proof.Machine.execXorAMBr ll s
  | .xorAMAbs hhll => Sys2Proof.Machine.execXorAMAbs hhll s
  | .xorAMIx => Sys2Proof.Machine.execXorAMIx s
  | .xorAMIy => Sys2Proof.Machine.execXorAMIy s
  | .ldAA => Sys2Proof.Machine.execLdAA s
  | .ldAB => Sys2Proof.Machine.execLdAB s
  | .ldAL => Sys2Proof.Machine.execLdAL s
  | .ldAH => Sys2Proof.Machine.execLdAH s
  | .ldAMBr ll => Sys2Proof.Machine.execLdAMBr ll s
  | .ldAMHl => Sys2Proof.Machine.execLdAMHl s
  | .ldAMIx => Sys2Proof.Machine.execLdAMIx s
  | .ldAMIy => Sys2Proof.Machine.execLdAMIy s
  | .ldBA => Sys2Proof.Machine.execLdBA s
  | .ldBB => Sys2Proof.Machine.execLdBB s
  | .ldBL => Sys2Proof.Machine.execLdBL s
  | .ldBH => Sys2Proof.Machine.execLdBH s
  | .ldBMBr ll => Sys2Proof.Machine.execLdBMBr ll s
  | .ldBMHl => Sys2Proof.Machine.execLdBMHl s
  | .ldBMIx => Sys2Proof.Machine.execLdBMIx s
  | .ldBMIy => Sys2Proof.Machine.execLdBMIy s
  | .ldLA => Sys2Proof.Machine.execLdLA s
  | .ldLB => Sys2Proof.Machine.execLdLB s
  | .ldLL => Sys2Proof.Machine.execLdLL s
  | .ldLH => Sys2Proof.Machine.execLdLH s
  | .ldLMBr ll => Sys2Proof.Machine.execLdLMBr ll s
  | .ldLMHl => Sys2Proof.Machine.execLdLMHl s
  | .ldLMIx => Sys2Proof.Machine.execLdLMIx s
  | .ldLMIy => Sys2Proof.Machine.execLdLMIy s
  | .ldHA => Sys2Proof.Machine.execLdHA s
  | .ldHB => Sys2Proof.Machine.execLdHB s
  | .ldHL => Sys2Proof.Machine.execLdHL s
  | .ldHH => Sys2Proof.Machine.execLdHH s
  | .ldHMBr ll => Sys2Proof.Machine.execLdHMBr ll s
  | .ldHMHl => Sys2Proof.Machine.execLdHMHl s
  | .ldHMIx => Sys2Proof.Machine.execLdHMIx s
  | .ldHMIy => Sys2Proof.Machine.execLdHMIy s
  | .ldMIxA => Sys2Proof.Machine.execLdMIxA s
  | .ldMIxB => Sys2Proof.Machine.execLdMIxB s
  | .ldMIxL => Sys2Proof.Machine.execLdMIxL s
  | .ldMIxH => Sys2Proof.Machine.execLdMIxH s
  | .ldMIxMBr ll => Sys2Proof.Machine.execLdMIxMBr ll s
  | .ldMIxMHl => Sys2Proof.Machine.execLdMIxMHl s
  | .ldMIxMIx => Sys2Proof.Machine.execLdMIxMIx s
  | .ldMIxMIy => Sys2Proof.Machine.execLdMIxMIy s
  | .ldMHlA => Sys2Proof.Machine.execLdMHlA s
  | .ldMHlB => Sys2Proof.Machine.execLdMHlB s
  | .ldMHlL => Sys2Proof.Machine.execLdMHlL s
  | .ldMHlH => Sys2Proof.Machine.execLdMHlH s
  | .ldMHlMBr ll => Sys2Proof.Machine.execLdMHlMBr ll s
  | .ldMHlMHl => Sys2Proof.Machine.execLdMHlMHl s
  | .ldMHlMIx => Sys2Proof.Machine.execLdMHlMIx s
  | .ldMHlMIy => Sys2Proof.Machine.execLdMHlMIy s
  | .ldMIyA => Sys2Proof.Machine.execLdMIyA s
  | .ldMIyB => Sys2Proof.Machine.execLdMIyB s
  | .ldMIyL => Sys2Proof.Machine.execLdMIyL s
  | .ldMIyH => Sys2Proof.Machine.execLdMIyH s
  | .ldMIyMBr ll => Sys2Proof.Machine.execLdMIyMBr ll s
  | .ldMIyMHl => Sys2Proof.Machine.execLdMIyMHl s
  | .ldMIyMIx => Sys2Proof.Machine.execLdMIyMIx s
  | .ldMIyMIy => Sys2Proof.Machine.execLdMIyMIy s
  | .ldMBrA ll => Sys2Proof.Machine.execLdMBrA ll s
  | .ldMBrB ll => Sys2Proof.Machine.execLdMBrB ll s
  | .ldMBrL ll => Sys2Proof.Machine.execLdMBrL ll s
  | .ldMBrH ll => Sys2Proof.Machine.execLdMBrH ll s
  | .ldMBrMHl ll => Sys2Proof.Machine.execLdMBrMHl ll s
  | .ldMBrMIx ll => Sys2Proof.Machine.execLdMBrMIx ll s
  | .ldMBrMIy ll => Sys2Proof.Machine.execLdMBrMIy ll s
  | .incA => Sys2Proof.Machine.execIncA s
  | .incB => Sys2Proof.Machine.execIncB s
  | .incL => Sys2Proof.Machine.execIncL s
  | .incH => Sys2Proof.Machine.execIncH s
  | .incBr => Sys2Proof.Machine.execIncBr s
  | .incMBr ll => Sys2Proof.Machine.execIncMBr ll s
  | .incMHl => Sys2Proof.Machine.execIncMHl s
  | .incSp => Sys2Proof.Machine.execIncSp s
  | .decA => Sys2Proof.Machine.execDecA s
  | .decB => Sys2Proof.Machine.execDecB s
  | .decL => Sys2Proof.Machine.execDecL s
  | .decH => Sys2Proof.Machine.execDecH s
  | .decBr => Sys2Proof.Machine.execDecBr s
  | .decMBr ll => Sys2Proof.Machine.execDecMBr ll s
  | .decMHl => Sys2Proof.Machine.execDecMHl s
  | .decSp => Sys2Proof.Machine.execDecSp s
  | .incBa => Sys2Proof.Machine.execIncBa s
  | .incHl => Sys2Proof.Machine.execIncHl s
  | .incIx => Sys2Proof.Machine.execIncIx s
  | .incIy => Sys2Proof.Machine.execIncIy s
  | .bitAB => Sys2Proof.Machine.execBitAB s
  | .bitMHlImm nn => Sys2Proof.Machine.execBitMHlImm nn s
  | .bitAImm nn => Sys2Proof.Machine.execBitAImm nn s
  | .bitBImm nn => Sys2Proof.Machine.execBitBImm nn s
  | .decBa => Sys2Proof.Machine.execDecBa s
  | .decHl => Sys2Proof.Machine.execDecHl s
  | .decIx => Sys2Proof.Machine.execDecIx s
  | .decIy => Sys2Proof.Machine.execDecIy s
  | .andScImm nn => Sys2Proof.Machine.execAndScImm nn s
  | .orScImm nn => Sys2Proof.Machine.execOrScImm nn s
  | .xorScImm nn => Sys2Proof.Machine.execXorScImm nn s
  | .ldScImm nn => Sys2Proof.Machine.execLdScImm nn s
  | .pushBa => Sys2Proof.Machine.execPushBa s
  | .pushHl => Sys2Proof.Machine.execPushHl s
  | .pushIx => Sys2Proof.Machine.execPushIx s
  | .pushIy => Sys2Proof.Machine.execPushIy s
  | .pushBr => Sys2Proof.Machine.execPushBr s
  | .pushEp => Sys2Proof.Machine.execPushEp s
  | .pushIp => Sys2Proof.Machine.execPushIp s
  | .pushSc => Sys2Proof.Machine.execPushSc s
  | .popBa => Sys2Proof.Machine.execPopBa s
  | .popHl => Sys2Proof.Machine.execPopHl s
  | .popIx => Sys2Proof.Machine.execPopIx s
  | .popIy => Sys2Proof.Machine.execPopIy s
  | .popBr => Sys2Proof.Machine.execPopBr s
  | .popEp => Sys2Proof.Machine.execPopEp s
  | .popIp => Sys2Proof.Machine.execPopIp s
  | .popSc => Sys2Proof.Machine.execPopSc s
  | .ldAImm nn => Sys2Proof.Machine.execLdAImm nn s
  | .ldBImm nn => Sys2Proof.Machine.execLdBImm nn s
  | .ldLImm nn => Sys2Proof.Machine.execLdLImm nn s
  | .ldHImm nn => Sys2Proof.Machine.execLdHImm nn s
  | .ldBrImm hh => Sys2Proof.Machine.execLdBrImm hh s
  | .ldMHlImm nn => Sys2Proof.Machine.execLdMHlImm nn s
  | .ldMIxImm nn => Sys2Proof.Machine.execLdMIxImm nn s
  | .ldMIyImm nn => Sys2Proof.Machine.execLdMIyImm nn s
  | .ldBaMAbs hhll => Sys2Proof.Machine.execLdBaMAbs hhll s
  | .ldHlMAbs hhll => Sys2Proof.Machine.execLdHlMAbs hhll s
  | .ldIxMAbs hhll => Sys2Proof.Machine.execLdIxMAbs hhll s
  | .ldIyMAbs hhll => Sys2Proof.Machine.execLdIyMAbs hhll s
  | .ldMAbsBa hhll => Sys2Proof.Machine.execLdMAbsBa hhll s
  | .ldMAbsHl hhll => Sys2Proof.Machine.execLdMAbsHl hhll s
  | .ldMAbsIx hhll => Sys2Proof.Machine.execLdMAbsIx hhll s
  | .ldMAbsIy hhll => Sys2Proof.Machine.execLdMAbsIy hhll s
  | .addBaImm mmnn => Sys2Proof.Machine.execAddBaImm mmnn s
  | .addHlImm mmnn => Sys2Proof.Machine.execAddHlImm mmnn s
  | .addIxImm mmnn => Sys2Proof.Machine.execAddIxImm mmnn s
  | .addIyImm mmnn => Sys2Proof.Machine.execAddIyImm mmnn s
  | .ldBaImm mmnn => Sys2Proof.Machine.execLdBaImm mmnn s
  | .ldHlImm mmnn => Sys2Proof.Machine.execLdHlImm mmnn s
  | .ldIxImm mmnn => Sys2Proof.Machine.execLdIxImm mmnn s
  | .ldIyImm mmnn => Sys2Proof.Machine.execLdIyImm mmnn s
  | .exBaHl => Sys2Proof.Machine.execExBaHl s
  | .exBaIx => Sys2Proof.Machine.execExBaIx s
  | .exBaIy => Sys2Proof.Machine.execExBaIy s
  | .exBaSp => Sys2Proof.Machine.execExBaSp s
  | .exAB => Sys2Proof.Machine.execExAB s
  | .exAMHl => Sys2Proof.Machine.execExAMHl s
  | .subBaImm mmnn => Sys2Proof.Machine.execSubBaImm mmnn s
  | .subHlImm mmnn => Sys2Proof.Machine.execSubHlImm mmnn s
  | .subIxImm mmnn => Sys2Proof.Machine.execSubIxImm mmnn s
  | .subIyImm mmnn => Sys2Proof.Machine.execSubIyImm mmnn s
  | .cpBaImm mmnn => Sys2Proof.Machine.execCpBaImm mmnn s
  | .cpHlImm mmnn => Sys2Proof.Machine.execCpHlImm mmnn s
  | .cpIxImm mmnn => Sys2Proof.Machine.execCpIxImm mmnn s
  | .cpIyImm mmnn => Sys2Proof.Machine.execCpIyImm mmnn s
  | .andMBrImm ll nn => Sys2Proof.Machine.execAndMBrImm ll nn s
  | .orMBrImm ll nn => Sys2Proof.Machine.execOrMBrImm ll nn s
  | .xorMBrImm ll nn => Sys2Proof.Machine.execXorMBrImm ll nn s
  | .cpMBrImm ll nn => Sys2Proof.Machine.execCpMBrImm ll nn s
  | .bitMBrImm ll nn => Sys2Proof.Machine.execBitMBrImm ll nn s
  | .ldMBrImm ll nn => Sys2Proof.Machine.execLdMBrImm ll nn s
  | .pack => Sys2Proof.Machine.execPack s
  | .upck => Sys2Proof.Machine.execUpck s
  | .carsC rr => Sys2Proof.Machine.execCarsC rr s
  | .carsNc rr => Sys2Proof.Machine.execCarsNc rr s
  | .carsZ rr => Sys2Proof.Machine.execCarsZ rr s
  | .carsNz rr => Sys2Proof.Machine.execCarsNz rr s
  | .jrsC rr => Sys2Proof.Machine.execJrsC rr s
  | .jrsNc rr => Sys2Proof.Machine.execJrsNc rr s
  | .jrsZ rr => Sys2Proof.Machine.execJrsZ rr s
  | .jrsNz rr => Sys2Proof.Machine.execJrsNz rr s
  | .carlC qqrr => Sys2Proof.Machine.execCarlC qqrr s
  | .carlNc qqrr => Sys2Proof.Machine.execCarlNc qqrr s
  | .carlZ qqrr => Sys2Proof.Machine.execCarlZ qqrr s
  | .carlNz qqrr => Sys2Proof.Machine.execCarlNz qqrr s
  | .jrlC qqrr => Sys2Proof.Machine.execJrlC qqrr s
  | .jrlNc qqrr => Sys2Proof.Machine.execJrlNc qqrr s
  | .jrlZ qqrr => Sys2Proof.Machine.execJrlZ qqrr s
  | .jrlNz qqrr => Sys2Proof.Machine.execJrlNz qqrr s
  | .cars rr => Sys2Proof.Machine.execCars rr s
  | .jrs rr => Sys2Proof.Machine.execJrs rr s
  | .carl qqrr => Sys2Proof.Machine.execCarl qqrr s
  | .jrl qqrr => Sys2Proof.Machine.execJrl qqrr s
  | .jpHl => Sys2Proof.Machine.execJpHl s
  | .djrNz rr => Sys2Proof.Machine.execDjrNz rr s
  | .swapA => Sys2Proof.Machine.execSwapA s
  | .swapMHl => Sys2Proof.Machine.execSwapMHl s
  | .ret => Sys2Proof.Machine.execRet s
  | .rete => Sys2Proof.Machine.execRete s
  | .rets => Sys2Proof.Machine.execRets s
  | .callMAbs hhll => Sys2Proof.Machine.execCallMAbs hhll s
  | .intVec kk => Sys2Proof.Machine.execIntVec kk s
  | .jpVec kk => Sys2Proof.Machine.execJpVec kk s
  | .nop => Sys2Proof.Machine.execNop s
  | .addAMIxDd dd => Sys2Proof.Machine.execAddAMIxDd dd s
  | .addAMIyDd dd => Sys2Proof.Machine.execAddAMIyDd dd s
  | .addAMIxL => Sys2Proof.Machine.execAddAMIxL s
  | .addAMIyL => Sys2Proof.Machine.execAddAMIyL s
  | .addMHlA => Sys2Proof.Machine.execAddMHlA s
  | .addMHlImm nn => Sys2Proof.Machine.execAddMHlImm nn s
  | .addMHlMIx => Sys2Proof.Machine.execAddMHlMIx s
  | .addMHlMIy => Sys2Proof.Machine.execAddMHlMIy s
  | .adcAMIxDd dd => Sys2Proof.Machine.execAdcAMIxDd dd s
  | .adcAMIyDd dd => Sys2Proof.Machine.execAdcAMIyDd dd s
  | .adcAMIxL => Sys2Proof.Machine.execAdcAMIxL s
  | .adcAMIyL => Sys2Proof.Machine.execAdcAMIyL s
  | .adcMHlA => Sys2Proof.Machine.execAdcMHlA s
  | .adcMHlImm nn => Sys2Proof.Machine.execAdcMHlImm nn s
  | .adcMHlMIx => Sys2Proof.Machine.execAdcMHlMIx s
  | .adcMHlMIy => Sys2Proof.Machine.execAdcMHlMIy s
  | .subAMIxDd dd => Sys2Proof.Machine.execSubAMIxDd dd s
  | .subAMIyDd dd => Sys2Proof.Machine.execSubAMIyDd dd s
  | .subAMIxL => Sys2Proof.Machine.execSubAMIxL s
  | .subAMIyL => Sys2Proof.Machine.execSubAMIyL s
  | .subMHlA => Sys2Proof.Machine.execSubMHlA s
  | .subMHlImm nn => Sys2Proof.Machine.execSubMHlImm nn s
  | .subMHlMIx => Sys2Proof.Machine.execSubMHlMIx s
  | .subMHlMIy => Sys2Proof.Machine.execSubMHlMIy s
  | .sbcAMIxDd dd => Sys2Proof.Machine.execSbcAMIxDd dd s
  | .sbcAMIyDd dd => Sys2Proof.Machine.execSbcAMIyDd dd s
  | .sbcAMIxL => Sys2Proof.Machine.execSbcAMIxL s
  | .sbcAMIyL => Sys2Proof.Machine.execSbcAMIyL s
  | .sbcMHlA => Sys2Proof.Machine.execSbcMHlA s
  | .sbcMHlImm nn => Sys2Proof.Machine.execSbcMHlImm nn s
  | .sbcMHlMIx => Sys2Proof.Machine.execSbcMHlMIx s
  | .sbcMHlMIy => Sys2Proof.Machine.execSbcMHlMIy s
  | .andAMIxDd dd => Sys2Proof.Machine.execAndAMIxDd dd s
  | .andAMIyDd dd => Sys2Proof.Machine.execAndAMIyDd dd s
  | .andAMIxL => Sys2Proof.Machine.execAndAMIxL s
  | .andAMIyL => Sys2Proof.Machine.execAndAMIyL s
  | .andMHlA => Sys2Proof.Machine.execAndMHlA s
  | .andMHlImm nn => Sys2Proof.Machine.execAndMHlImm nn s
  | .andMHlMIx => Sys2Proof.Machine.execAndMHlMIx s
  | .andMHlMIy => Sys2Proof.Machine.execAndMHlMIy s
  | .orAMIxDd dd => Sys2Proof.Machine.execOrAMIxDd dd s
  | .orAMIyDd dd => Sys2Proof.Machine.execOrAMIyDd dd s
  | .orAMIxL => Sys2Proof.Machine.execOrAMIxL s
  | .orAMIyL => Sys2Proof.Machine.execOrAMIyL s
  | .orMHlA => Sys2Proof.Machine.execOrMHlA s
  | .orMHlImm nn => Sys2Proof.Machine.execOrMHlImm nn s
  | .orMHlMIx => Sys2Proof.Machine.execOrMHlMIx s
  | .orMHlMIy => Sys2Proof.Machine.execOrMHlMIy s
  | .cpAMIxDd dd => Sys2Proof.Machine.execCpAMIxDd dd s
  | .cpAMIyDd dd => Sys2Proof.Machine.execCpAMIyDd dd s
  | .cpAMIxL => Sys2Proof.Machine.execCpAMIxL s
  | .cpAMIyL => Sys2Proof.Machine.execCpAMIyL s
  | .cpMHlA => Sys2Proof.Machine.execCpMHlA s
  | .cpMHlImm nn => Sys2Proof.Machine.execCpMHlImm nn s
  | .cpMHlMIx => Sys2Proof.Machine.execCpMHlMIx s
  | .cpMHlMIy => Sys2Proof.Machine.execCpMHlMIy s
  | .xorAMIxDd dd => Sys2Proof.Machine.execXorAMIxDd dd s
  | .xorAMIyDd dd => Sys2Proof.Machine.execXorAMIyDd dd s
  | .xorAMIxL => Sys2Proof.Machine.execXorAMIxL s
  | .xorAMIyL => Sys2Proof.Machine.execXorAMIyL s
  | .xorMHlA => Sys2Proof.Machine.execXorMHlA s
  | .xorMHlImm nn => Sys2Proof.Machine.execXorMHlImm nn s
  | .xorMHlMIx => Sys2Proof.Machine.execXorMHlMIx s
  | .xorMHlMIy => Sys2Proof.Machine.execXorMHlMIy s
  | .ldAMIxDd dd => Sys2Proof.Machine.execLdAMIxDd dd s
  | .ldAMIyDd dd => Sys2Proof.Machine.execLdAMIyDd dd s
  | .ldAMIxL => Sys2Proof.Machine.execLdAMIxL s
  | .ldAMIyL => Sys2Proof.Machine.execLdAMIyL s
  | .ldMIxDdA dd => Sys2Proof.Machine.execLdMIxDdA dd s
  | .ldMIyDdA dd => Sys2Proof.Machine.execLdMIyDdA dd s
  | .ldMIxLA => Sys2Proof.Machine.execLdMIxLA s
  | .ldMIyLA => Sys2Proof.Machine.execLdMIyLA s
  | .ldBMIxDd dd => Sys2Proof.Machine.execLdBMIxDd dd s
  | .ldBMIyDd dd => Sys2Proof.Machine.execLdBMIyDd dd s
  | .ldBMIxL => Sys2Proof.Machine.execLdBMIxL s
  | .ldBMIyL => Sys2Proof.Machine.execLdBMIyL s
  | .ldMIxDdB dd => Sys2Proof.Machine.execLdMIxDdB dd s
  | .ldMIyDdB dd => Sys2Proof.Machine.execLdMIyDdB dd s
  | .ldMIxLB => Sys2Proof.Machine.execLdMIxLB s
  | .ldMIyLB => Sys2Proof.Machine.execLdMIyLB s
  | .ldLMIxDd dd => Sys2Proof.Machine.execLdLMIxDd dd s
  | .ldLMIyDd dd => Sys2Proof.Machine.execLdLMIyDd dd s
  | .ldLMIxL => Sys2Proof.Machine.execLdLMIxL s
  | .ldLMIyL => Sys2Proof.Machine.execLdLMIyL s
  | .ldMIxDdL dd => Sys2Proof.Machine.execLdMIxDdL dd s
  | .ldMIyDdL dd => Sys2Proof.Machine.execLdMIyDdL dd s
  | .ldMIxLL => Sys2Proof.Machine.execLdMIxLL s
  | .ldMIyLL => Sys2Proof.Machine.execLdMIyLL s
  | .ldHMIxDd dd => Sys2Proof.Machine.execLdHMIxDd dd s
  | .ldHMIyDd dd => Sys2Proof.Machine.execLdHMIyDd dd s
  | .ldHMIxL => Sys2Proof.Machine.execLdHMIxL s
  | .ldHMIyL => Sys2Proof.Machine.execLdHMIyL s
  | .ldMIxDdH dd => Sys2Proof.Machine.execLdMIxDdH dd s
  | .ldMIyDdH dd => Sys2Proof.Machine.execLdMIyDdH dd s
  | .ldMIxLH => Sys2Proof.Machine.execLdMIxLH s
  | .ldMIyLH => Sys2Proof.Machine.execLdMIyLH s
  | .ldMHlMIxDd dd => Sys2Proof.Machine.execLdMHlMIxDd dd s
  | .ldMHlMIyDd dd => Sys2Proof.Machine.execLdMHlMIyDd dd s
  | .ldMHlMIxL => Sys2Proof.Machine.execLdMHlMIxL s
  | .ldMHlMIyL => Sys2Proof.Machine.execLdMHlMIyL s
  | .ldMIxMIxDd dd => Sys2Proof.Machine.execLdMIxMIxDd dd s
  | .ldMIxMIyDd dd => Sys2Proof.Machine.execLdMIxMIyDd dd s
  | .ldMIxMIxL => Sys2Proof.Machine.execLdMIxMIxL s
  | .ldMIxMIyL => Sys2Proof.Machine.execLdMIxMIyL s
  | .ldMIyMIxDd dd => Sys2Proof.Machine.execLdMIyMIxDd dd s
  | .ldMIyMIyDd dd => Sys2Proof.Machine.execLdMIyMIyDd dd s
  | .ldMIyMIxL => Sys2Proof.Machine.execLdMIyMIxL s
  | .ldMIyMIyL => Sys2Proof.Machine.execLdMIyMIyL s
  | .slaA => Sys2Proof.Machine.execSlaA s
  | .slaB => Sys2Proof.Machine.execSlaB s
  | .slaMBr ll => Sys2Proof.Machine.execSlaMBr ll s
  | .slaMHl => Sys2Proof.Machine.execSlaMHl s
  | .sllA => Sys2Proof.Machine.execSllA s
  | .sllB => Sys2Proof.Machine.execSllB s
  | .sllMBr ll => Sys2Proof.Machine.execSllMBr ll s
  | .sllMHl => Sys2Proof.Machine.execSllMHl s
  | .sraA => Sys2Proof.Machine.execSraA s
  | .sraB => Sys2Proof.Machine.execSraB s
  | .sraMBr ll => Sys2Proof.Machine.execSraMBr ll s
  | .sraMHl => Sys2Proof.Machine.execSraMHl s
  | .srlA => Sys2Proof.Machine.execSrlA s
  | .srlB => Sys2Proof.Machine.execSrlB s
  | .srlMBr ll => Sys2Proof.Machine.execSrlMBr ll s
  | .srlMHl => Sys2Proof.Machine.execSrlMHl s
  | .rlA => Sys2Proof.Machine.execRlA s
  | .rlB => Sys2Proof.Machine.execRlB s
  | .rlMBr ll => Sys2Proof.Machine.execRlMBr ll s
  | .rlMHl => Sys2Proof.Machine.execRlMHl s
  | .rlcA => Sys2Proof.Machine.execRlcA s
  | .rlcB => Sys2Proof.Machine.execRlcB s
  | .rlcMBr ll => Sys2Proof.Machine.execRlcMBr ll s
  | .rlcMHl => Sys2Proof.Machine.execRlcMHl s
  | .rrA => Sys2Proof.Machine.execRrA s
  | .rrB => Sys2Proof.Machine.execRrB s
  | .rrMBr ll => Sys2Proof.Machine.execRrMBr ll s
  | .rrMHl => Sys2Proof.Machine.execRrMHl s
  | .rrcA => Sys2Proof.Machine.execRrcA s
  | .rrcB => Sys2Proof.Machine.execRrcB s
  | .rrcMBr ll => Sys2Proof.Machine.execRrcMBr ll s
  | .rrcMHl => Sys2Proof.Machine.execRrcMHl s
  | .cplA => Sys2Proof.Machine.execCplA s
  | .cplB => Sys2Proof.Machine.execCplB s
  | .cplMBr ll => Sys2Proof.Machine.execCplMBr ll s
  | .cplMHl => Sys2Proof.Machine.execCplMHl s
  | .negA => Sys2Proof.Machine.execNegA s
  | .negB => Sys2Proof.Machine.execNegB s
  | .negMBr ll => Sys2Proof.Machine.execNegMBr ll s
  | .negMHl => Sys2Proof.Machine.execNegMHl s
  | .sep => Sys2Proof.Machine.execSep s
  | .halt => Sys2Proof.Machine.execHalt s
  | .slp => Sys2Proof.Machine.execSlp s
  | .andBImm nn => Sys2Proof.Machine.execAndBImm nn s
  | .andLImm nn => Sys2Proof.Machine.execAndLImm nn s
  | .andHImm nn => Sys2Proof.Machine.execAndHImm nn s
  | .orBImm nn => Sys2Proof.Machine.execOrBImm nn s
  | .orLImm nn => Sys2Proof.Machine.execOrLImm nn s
  | .orHImm nn => Sys2Proof.Machine.execOrHImm nn s
  | .xorBImm nn => Sys2Proof.Machine.execXorBImm nn s
  | .xorLImm nn => Sys2Proof.Machine.execXorLImm nn s
  | .xorHImm nn => Sys2Proof.Machine.execXorHImm nn s
  | .cpBImm nn => Sys2Proof.Machine.execCpBImm nn s
  | .cpLImm nn => Sys2Proof.Machine.execCpLImm nn s
  | .cpHImm nn => Sys2Proof.Machine.execCpHImm nn s
  | .cpBrImm hh => Sys2Proof.Machine.execCpBrImm hh s
  | .ldABr => Sys2Proof.Machine.execLdABr s
  | .ldASc => Sys2Proof.Machine.execLdASc s
  | .ldBrA => Sys2Proof.Machine.execLdBrA s
  | .ldScA => Sys2Proof.Machine.execLdScA s
  | .ldNbImm bb => Sys2Proof.Machine.execLdNbImm bb s
  | .ldEpImm pp => Sys2Proof.Machine.execLdEpImm pp s
  | .ldXpImm pp => Sys2Proof.Machine.execLdXpImm pp s
  | .ldYpImm pp => Sys2Proof.Machine.execLdYpImm pp s
  | .ldANb => Sys2Proof.Machine.execLdANb s
  | .ldAEp => Sys2Proof.Machine.execLdAEp s
  | .ldAXp => Sys2Proof.Machine.execLdAXp s
  | .ldAYp => Sys2Proof.Machine.execLdAYp s
  | .ldNbA => Sys2Proof.Machine.execLdNbA s
  | .ldEpA => Sys2Proof.Machine.execLdEpA s
  | .ldXpA => Sys2Proof.Machine.execLdXpA s
  | .ldYpA => Sys2Proof.Machine.execLdYpA s
  | .ldAMAbs hhll => Sys2Proof.Machine.execLdAMAbs hhll s
  | .ldBMAbs hhll => Sys2Proof.Machine.execLdBMAbs hhll s
  | .ldLMAbs hhll => Sys2Proof.Machine.execLdLMAbs hhll s
  | .ldHMAbs hhll => Sys2Proof.Machine.execLdHMAbs hhll s
  | .ldMAbsA hhll => Sys2Proof.Machine.execLdMAbsA hhll s
  | .ldMAbsB hhll => Sys2Proof.Machine.execLdMAbsB hhll s
  | .ldMAbsL hhll => Sys2Proof.Machine.execLdMAbsL hhll s
  | .ldMAbsH hhll => Sys2Proof.Machine.execLdMAbsH hhll s
  | .mlt => Sys2Proof.Machine.execMlt s
  | .div => Sys2Proof.Machine.execDiv s
  | .jrsLt rr => Sys2Proof.Machine.execJrsLt rr s
  | .jrsLe rr => Sys2Proof.Machine.execJrsLe rr s
  | .jrsGt rr => Sys2Proof.Machine.execJrsGt rr s
  | .jrsGe rr => Sys2Proof.Machine.execJrsGe rr s
  | .jrsV rr => Sys2Proof.Machine.execJrsV rr s
  | .jrsNv rr => Sys2Proof.Machine.execJrsNv rr s
  | .jrsP rr => Sys2Proof.Machine.execJrsP rr s
  | .jrsM rr => Sys2Proof.Machine.execJrsM rr s
  | .jrsF0 rr => Sys2Proof.Machine.execJrsF0 rr s
  | .jrsF1 rr => Sys2Proof.Machine.execJrsF1 rr s
  | .jrsF2 rr => Sys2Proof.Machine.execJrsF2 rr s
  | .jrsF3 rr => Sys2Proof.Machine.execJrsF3 rr s
  | .jrsNf0 rr => Sys2Proof.Machine.execJrsNf0 rr s
  | .jrsNf1 rr => Sys2Proof.Machine.execJrsNf1 rr s
  | .jrsNf2 rr => Sys2Proof.Machine.execJrsNf2 rr s
  | .jrsNf3 rr => Sys2Proof.Machine.execJrsNf3 rr s
  | .carsLt rr => Sys2Proof.Machine.execCarsLt rr s
  | .carsLe rr => Sys2Proof.Machine.execCarsLe rr s
  | .carsGt rr => Sys2Proof.Machine.execCarsGt rr s
  | .carsGe rr => Sys2Proof.Machine.execCarsGe rr s
  | .carsV rr => Sys2Proof.Machine.execCarsV rr s
  | .carsNv rr => Sys2Proof.Machine.execCarsNv rr s
  | .carsP rr => Sys2Proof.Machine.execCarsP rr s
  | .carsM rr => Sys2Proof.Machine.execCarsM rr s
  | .carsF0 rr => Sys2Proof.Machine.execCarsF0 rr s
  | .carsF1 rr => Sys2Proof.Machine.execCarsF1 rr s
  | .carsF2 rr => Sys2Proof.Machine.execCarsF2 rr s
  | .carsF3 rr => Sys2Proof.Machine.execCarsF3 rr s
  | .carsNf0 rr => Sys2Proof.Machine.execCarsNf0 rr s
  | .carsNf1 rr => Sys2Proof.Machine.execCarsNf1 rr s
  | .carsNf2 rr => Sys2Proof.Machine.execCarsNf2 rr s
  | .carsNf3 rr => Sys2Proof.Machine.execCarsNf3 rr s
  | .addBaBa => Sys2Proof.Machine.execAddBaBa s
  | .addBaHl => Sys2Proof.Machine.execAddBaHl s
  | .addBaIx => Sys2Proof.Machine.execAddBaIx s
  | .addBaIy => Sys2Proof.Machine.execAddBaIy s
  | .adcBaBa => Sys2Proof.Machine.execAdcBaBa s
  | .adcBaHl => Sys2Proof.Machine.execAdcBaHl s
  | .adcBaIx => Sys2Proof.Machine.execAdcBaIx s
  | .adcBaIy => Sys2Proof.Machine.execAdcBaIy s
  | .subBaBa => Sys2Proof.Machine.execSubBaBa s
  | .subBaHl => Sys2Proof.Machine.execSubBaHl s
  | .subBaIx => Sys2Proof.Machine.execSubBaIx s
  | .subBaIy => Sys2Proof.Machine.execSubBaIy s
  | .sbcBaBa => Sys2Proof.Machine.execSbcBaBa s
  | .sbcBaHl => Sys2Proof.Machine.execSbcBaHl s
  | .sbcBaIx => Sys2Proof.Machine.execSbcBaIx s
  | .sbcBaIy => Sys2Proof.Machine.execSbcBaIy s
  | .cpBaBa => Sys2Proof.Machine.execCpBaBa s
  | .cpBaHl => Sys2Proof.Machine.execCpBaHl s
  | .cpBaIx => Sys2Proof.Machine.execCpBaIx s
  | .cpBaIy => Sys2Proof.Machine.execCpBaIy s
  | .addHlBa => Sys2Proof.Machine.execAddHlBa s
  | .addHlHl => Sys2Proof.Machine.execAddHlHl s
  | .addHlIx => Sys2Proof.Machine.execAddHlIx s
  | .addHlIy => Sys2Proof.Machine.execAddHlIy s
  | .adcHlBa => Sys2Proof.Machine.execAdcHlBa s
  | .adcHlHl => Sys2Proof.Machine.execAdcHlHl s
  | .adcHlIx => Sys2Proof.Machine.execAdcHlIx s
  | .adcHlIy => Sys2Proof.Machine.execAdcHlIy s
  | .subHlBa => Sys2Proof.Machine.execSubHlBa s
  | .subHlHl => Sys2Proof.Machine.execSubHlHl s
  | .subHlIx => Sys2Proof.Machine.execSubHlIx s
  | .subHlIy => Sys2Proof.Machine.execSubHlIy s
  | .sbcHlBa => Sys2Proof.Machine.execSbcHlBa s
  | .sbcHlHl => Sys2Proof.Machine.execSbcHlHl s
  | .sbcHlIx => Sys2Proof.Machine.execSbcHlIx s
  | .sbcHlIy => Sys2Proof.Machine.execSbcHlIy s
  | .cpHlBa => Sys2Proof.Machine.execCpHlBa s
  | .cpHlHl => Sys2Proof.Machine.execCpHlHl s
  | .cpHlIx => Sys2Proof.Machine.execCpHlIx s
  | .cpHlIy => Sys2Proof.Machine.execCpHlIy s
  | .addIxBa => Sys2Proof.Machine.execAddIxBa s
  | .addIxHl => Sys2Proof.Machine.execAddIxHl s
  | .addIyBa => Sys2Proof.Machine.execAddIyBa s
  | .addIyHl => Sys2Proof.Machine.execAddIyHl s
  | .addSpBa => Sys2Proof.Machine.execAddSpBa s
  | .addSpHl => Sys2Proof.Machine.execAddSpHl s
  | .subIxBa => Sys2Proof.Machine.execSubIxBa s
  | .subIxHl => Sys2Proof.Machine.execSubIxHl s
  | .subIyBa => Sys2Proof.Machine.execSubIyBa s
  | .subIyHl => Sys2Proof.Machine.execSubIyHl s
  | .subSpBa => Sys2Proof.Machine.execSubSpBa s
  | .subSpHl => Sys2Proof.Machine.execSubSpHl s
  | .cpSpBa => Sys2Proof.Machine.execCpSpBa s
  | .cpSpHl => Sys2Proof.Machine.execCpSpHl s
  | .adcBaImm mmnn => Sys2Proof.Machine.execAdcBaImm mmnn s
  | .adcHlImm mmnn => Sys2Proof.Machine.execAdcHlImm mmnn s
  | .sbcBaImm mmnn => Sys2Proof.Machine.execSbcBaImm mmnn s
  | .sbcHlImm mmnn => Sys2Proof.Machine.execSbcHlImm mmnn s
  | .addSpImm mmnn => Sys2Proof.Machine.execAddSpImm mmnn s
  | .subSpImm mmnn => Sys2Proof.Machine.execSubSpImm mmnn s
  | .cpSpImm mmnn => Sys2Proof.Machine.execCpSpImm mmnn s
  | .ldSpImm mmnn => Sys2Proof.Machine.execLdSpImm mmnn s
  | .ldBaMSpDd dd => Sys2Proof.Machine.execLdBaMSpDd dd s
  | .ldHlMSpDd dd => Sys2Proof.Machine.execLdHlMSpDd dd s
  | .ldIxMSpDd dd => Sys2Proof.Machine.execLdIxMSpDd dd s
  | .ldIyMSpDd dd => Sys2Proof.Machine.execLdIyMSpDd dd s
  | .ldMSpDdBa dd => Sys2Proof.Machine.execLdMSpDdBa dd s
  | .ldMSpDdHl dd => Sys2Proof.Machine.execLdMSpDdHl dd s
  | .ldMSpDdIx dd => Sys2Proof.Machine.execLdMSpDdIx dd s
  | .ldMSpDdIy dd => Sys2Proof.Machine.execLdMSpDdIy dd s
  | .ldSpMAbs hhll => Sys2Proof.Machine.execLdSpMAbs hhll s
  | .ldMAbsSp hhll => Sys2Proof.Machine.execLdMAbsSp hhll s
  | .pushA => Sys2Proof.Machine.execPushA s
  | .pushB => Sys2Proof.Machine.execPushB s
  | .pushL => Sys2Proof.Machine.execPushL s
  | .pushH => Sys2Proof.Machine.execPushH s
  | .popA => Sys2Proof.Machine.execPopA s
  | .popB => Sys2Proof.Machine.execPopB s
  | .popL => Sys2Proof.Machine.execPopL s
  | .popH => Sys2Proof.Machine.execPopH s
  | .pushAll => Sys2Proof.Machine.execPushAll s
  | .pushAle => Sys2Proof.Machine.execPushAle s
  | .popAll => Sys2Proof.Machine.execPopAll s
  | .popAle => Sys2Proof.Machine.execPopAle s
  | .ldBaMHl => Sys2Proof.Machine.execLdBaMHl s
  | .ldHlMHl => Sys2Proof.Machine.execLdHlMHl s
  | .ldIxMHl => Sys2Proof.Machine.execLdIxMHl s
  | .ldIyMHl => Sys2Proof.Machine.execLdIyMHl s
  | .ldMHlBa => Sys2Proof.Machine.execLdMHlBa s
  | .ldMHlHl => Sys2Proof.Machine.execLdMHlHl s
  | .ldMHlIx => Sys2Proof.Machine.execLdMHlIx s
  | .ldMHlIy => Sys2Proof.Machine.execLdMHlIy s
  | .ldBaMIx => Sys2Proof.Machine.execLdBaMIx s
  | .ldHlMIx => Sys2Proof.Machine.execLdHlMIx s
  | .ldIxMIx => Sys2Proof.Machine.execLdIxMIx s
  | .ldIyMIx => Sys2Proof.Machine.execLdIyMIx s
  | .ldMIxBa => Sys2Proof.Machine.execLdMIxBa s
  | .ldMIxHl => Sys2Proof.Machine.execLdMIxHl s
  | .ldMIxIx => Sys2Proof.Machine.execLdMIxIx s
  | .ldMIxIy => Sys2Proof.Machine.execLdMIxIy s
  | .ldBaMIy => Sys2Proof.Machine.execLdBaMIy s
  | .ldHlMIy => Sys2Proof.Machine.execLdHlMIy s
  | .ldIxMIy => Sys2Proof.Machine.execLdIxMIy s
  | .ldIyMIy => Sys2Proof.Machine.execLdIyMIy s
  | .ldMIyBa => Sys2Proof.Machine.execLdMIyBa s
  | .ldMIyHl => Sys2Proof.Machine.execLdMIyHl s
  | .ldMIyIx => Sys2Proof.Machine.execLdMIyIx s
  | .ldMIyIy => Sys2Proof.Machine.execLdMIyIy s
  | .ldBaBa => Sys2Proof.Machine.execLdBaBa s
  | .ldBaHl => Sys2Proof.Machine.execLdBaHl s
  | .ldBaIx => Sys2Proof.Machine.execLdBaIx s
  | .ldBaIy => Sys2Proof.Machine.execLdBaIy s
  | .ldHlBa => Sys2Proof.Machine.execLdHlBa s
  | .ldHlHl => Sys2Proof.Machine.execLdHlHl s
  | .ldHlIx => Sys2Proof.Machine.execLdHlIx s
  | .ldHlIy => Sys2Proof.Machine.execLdHlIy s
  | .ldIxBa => Sys2Proof.Machine.execLdIxBa s
  | .ldIxHl => Sys2Proof.Machine.execLdIxHl s
  | .ldIxIx => Sys2Proof.Machine.execLdIxIx s
  | .ldIxIy => Sys2Proof.Machine.execLdIxIy s
  | .ldIyBa => Sys2Proof.Machine.execLdIyBa s
  | .ldIyHl => Sys2Proof.Machine.execLdIyHl s
  | .ldIyIx => Sys2Proof.Machine.execLdIyIx s
  | .ldIyIy => Sys2Proof.Machine.execLdIyIy s
  | .ldSpBa => Sys2Proof.Machine.execLdSpBa s
  | .ldSpHl => Sys2Proof.Machine.execLdSpHl s
  | .ldSpIx => Sys2Proof.Machine.execLdSpIx s
  | .ldSpIy => Sys2Proof.Machine.execLdSpIy s
  | .ldHlSp => Sys2Proof.Machine.execLdHlSp s
  | .ldHlPc => Sys2Proof.Machine.execLdHlPc s
  | .ldBaSp => Sys2Proof.Machine.execLdBaSp s
  | .ldBaPc => Sys2Proof.Machine.execLdBaPc s
  | .ldIxSp => Sys2Proof.Machine.execLdIxSp s
  | .ldIySp => Sys2Proof.Machine.execLdIySp s

end Sys2Proof.Machine
end

