-- ==== Sys2Proof/Machine/Step.lean ====
section
/-! DEFINITION. The step: sample the inputs, then one instruction, one exception entry, or one wait. -/

namespace Sys2Proof.Machine

/-- One step of the machine. -/
def step (s : State) : Host.Outcome State Fault Refusal := boundary exec (latchInputs s)

/-- `s` with the instruction of the table's bits `w` where the next fetch reads, and the program execution status, as if a program had been loaded there and the reset exception processing were over (log 2). -/
def State.withFetchWord (s : State) (nbits w : Nat) : State :=
  (placeBytes s (tableBytes 4 (w % 2 ^ nbits)) s.pc).setStatus .run

end Sys2Proof.Machine
end

