-- ==== Sys2Proof/Machine/Cycles.lean ====
section
/-! DEFINITION. The bus cycles of each instruction (R125, R590, R731), as data: no rule of the machine depends on time (R730, log 30). -/

namespace Sys2Proof.Machine

/-- A count of bus cycles (R126, `cycles` and `cycles_detail`). -/
inductive Cycles where
  | fixed (n : Nat)
  /-- The count in the minimum mode (MODEL0/1 among it) and in the maximum mode. -/
  | byMode (minimum maximum : Nat)
  /-- A conditional call: taken in the minimum mode, taken in the maximum mode, not taken. -/
  | call (takenMinimum takenMaximum notTaken : Nat)
deriving DecidableEq, Repr

/-- The bus cycles of each instruction. -/
def busCycles : Instr → Cycles
  | .ret
      => .byMode 3 4
  | .cars _ | .rete
      => .byMode 4 5
  | .carl _ | .rets
      => .byMode 5 6
  | .callMAbs _ | .intVec _
      => .byMode 7 8
  | .carsC _ | .carsNc _ | .carsZ _ | .carsNz _
      => .call 4 5 2
  | .carlC _ | .carlNc _ | .carlZ _ | .carlNz _ | .carsLt _ | .carsLe _ | .carsGt _ | .carsGe _ | .carsV _
  | .carsNv _ | .carsP _ | .carsM _ | .carsF0 _ | .carsF1 _ | .carsF2 _ | .carsF3 _ | .carsNf0 _ | .carsNf1 _
  | .carsNf2 _ | .carsNf3 _
      => .call 5 6 3
  | .ldAA | .ldAB | .ldAL | .ldAH | .ldBA | .ldBB | .ldBL | .ldBH | .ldLA | .ldLB | .ldLL | .ldLH | .ldHA
  | .ldHB | .ldHL | .ldHH
      => .fixed 1
  | .addAA | .addAB | .addAImm _ | .addAMHl | .addAMIx | .addAMIy | .adcAA | .adcAB | .adcAImm _ | .adcAMHl
  | .adcAMIx | .adcAMIy | .subAA | .subAB | .subAImm _ | .subAMHl | .subAMIx | .subAMIy | .sbcAA | .sbcAB
  | .sbcAImm _ | .sbcAMHl | .sbcAMIx | .sbcAMIy | .andAA | .andAB | .andAImm _ | .andAMHl | .andAMIx
  | .andAMIy | .orAA | .orAB | .orAImm _ | .orAMHl | .orAMIx | .orAMIy | .cpAA | .cpAB | .cpAImm _ | .cpAMHl
  | .cpAMIx | .cpAMIy | .xorAA | .xorAB | .xorAImm _ | .xorAMHl | .xorAMIx | .xorAMIy | .ldAMHl | .ldAMIx
  | .ldAMIy | .ldBMHl | .ldBMIx | .ldBMIy | .ldLMHl | .ldLMIx | .ldLMIy | .ldHMHl | .ldHMIx | .ldHMIy
  | .ldMIxA | .ldMIxB | .ldMIxL | .ldMIxH | .ldMHlA | .ldMHlB | .ldMHlL | .ldMHlH | .ldMIyA | .ldMIyB
  | .ldMIyL | .ldMIyH | .incA | .incB | .incL | .incH | .incBr | .incSp | .decA | .decB | .decL | .decH
  | .decBr | .decSp | .incBa | .incHl | .incIx | .incIy | .bitAB | .bitAImm _ | .bitBImm _ | .decBa | .decHl
  | .decIx | .decIy | .popBr | .popEp | .popSc | .ldAImm _ | .ldBImm _ | .ldLImm _ | .ldHImm _ | .ldBrImm _
  | .exAB | .pack | .upck | .jrsC _ | .jrsNc _ | .jrsZ _ | .jrsNz _ | .jrs _ | .jpHl | .swapA | .nop | .ldABr
  | .ldASc | .ldBrA | .ldANb | .ldAEp | .ldAXp | .ldAYp | .ldEpA | .ldXpA | .ldYpA | .ldBaBa | .ldBaHl
  | .ldBaIx | .ldBaIy | .ldHlBa | .ldHlHl | .ldHlIx | .ldHlIy | .ldIxBa | .ldIxHl | .ldIxIx | .ldIxIy
  | .ldIyBa | .ldIyHl | .ldIyIx | .ldIyIy | .ldSpBa | .ldSpHl | .ldSpIx | .ldSpIy | .ldHlSp | .ldHlPc
  | .ldBaSp | .ldBaPc | .ldIxSp | .ldIySp
      => .fixed 2
  | .addAMBr _ | .adcAMBr _ | .subAMBr _ | .sbcAMBr _ | .andAMBr _ | .orAMBr _ | .cpAMBr _ | .xorAMBr _
  | .ldAMBr _ | .ldBMBr _ | .ldLMBr _ | .ldHMBr _ | .ldMIxMHl | .ldMIxMIx | .ldMIxMIy | .ldMHlMHl | .ldMHlMIx
  | .ldMHlMIy | .ldMIyMHl | .ldMIyMIx | .ldMIyMIy | .ldMBrA _ | .ldMBrB _ | .ldMBrL _ | .ldMBrH _ | .incMHl
  | .decMHl | .bitMHlImm _ | .andScImm _ | .orScImm _ | .xorScImm _ | .ldScImm _ | .pushBr | .pushEp
  | .pushSc | .popBa | .popHl | .popIx | .popIy | .popIp | .ldMHlImm _ | .ldMIxImm _ | .ldMIyImm _
  | .addBaImm _ | .addHlImm _ | .addIxImm _ | .addIyImm _ | .ldBaImm _ | .ldHlImm _ | .ldIxImm _ | .ldIyImm _
  | .exBaHl | .exBaIx | .exBaIy | .exBaSp | .exAMHl | .subBaImm _ | .subHlImm _ | .subIxImm _ | .subIyImm _
  | .cpBaImm _ | .cpHlImm _ | .cpIxImm _ | .cpIyImm _ | .jrlC _ | .jrlNc _ | .jrlZ _ | .jrlNz _ | .jrl _
  | .swapMHl | .cpMHlA | .slaA | .slaB | .sllA | .sllB | .sraA | .sraB | .srlA | .srlB | .rlA | .rlB | .rlcA
  | .rlcB | .rrA | .rrB | .rrcA | .rrcB | .cplA | .cplB | .negA | .negB | .sep | .halt | .slp | .andBImm _
  | .andLImm _ | .andHImm _ | .orBImm _ | .orLImm _ | .orHImm _ | .xorBImm _ | .xorLImm _ | .xorHImm _
  | .cpBImm _ | .cpLImm _ | .cpHImm _ | .cpBrImm _ | .ldScA | .ldEpImm _ | .ldXpImm _ | .ldYpImm _ | .ldNbA
  | .jrsLt _ | .jrsLe _ | .jrsGt _ | .jrsGe _ | .jrsV _ | .jrsNv _ | .jrsP _ | .jrsM _ | .jrsF0 _ | .jrsF1 _
  | .jrsF2 _ | .jrsF3 _ | .jrsNf0 _ | .jrsNf1 _ | .jrsNf2 _ | .jrsNf3 _ | .pushA | .pushB | .pushL | .pushH
  | .popA | .popB | .popL | .popH
      => .fixed 3
  | .addAMAbs _ | .adcAMAbs _ | .subAMAbs _ | .sbcAMAbs _ | .andAMAbs _ | .orAMAbs _ | .cpAMAbs _
  | .xorAMAbs _ | .ldMIxMBr _ | .ldMHlMBr _ | .ldMIyMBr _ | .ldMBrMHl _ | .ldMBrMIx _ | .ldMBrMIy _
  | .incMBr _ | .decMBr _ | .pushBa | .pushHl | .pushIx | .pushIy | .pushIp | .cpMBrImm _ _ | .bitMBrImm _ _
  | .ldMBrImm _ _ | .djrNz _ | .jpVec _ | .addAMIxDd _ | .addAMIyDd _ | .addAMIxL | .addAMIyL | .addMHlA
  | .adcAMIxDd _ | .adcAMIyDd _ | .adcAMIxL | .adcAMIyL | .adcMHlA | .subAMIxDd _ | .subAMIyDd _ | .subAMIxL
  | .subAMIyL | .subMHlA | .sbcAMIxDd _ | .sbcAMIyDd _ | .sbcAMIxL | .sbcAMIyL | .sbcMHlA | .andAMIxDd _
  | .andAMIyDd _ | .andAMIxL | .andAMIyL | .andMHlA | .orAMIxDd _ | .orAMIyDd _ | .orAMIxL | .orAMIyL
  | .orMHlA | .cpAMIxDd _ | .cpAMIyDd _ | .cpAMIxL | .cpAMIyL | .cpMHlImm _ | .cpMHlMIx | .cpMHlMIy
  | .xorAMIxDd _ | .xorAMIyDd _ | .xorAMIxL | .xorAMIyL | .xorMHlA | .ldAMIxDd _ | .ldAMIyDd _ | .ldAMIxL
  | .ldAMIyL | .ldMIxDdA _ | .ldMIyDdA _ | .ldMIxLA | .ldMIyLA | .ldBMIxDd _ | .ldBMIyDd _ | .ldBMIxL
  | .ldBMIyL | .ldMIxDdB _ | .ldMIyDdB _ | .ldMIxLB | .ldMIyLB | .ldLMIxDd _ | .ldLMIyDd _ | .ldLMIxL
  | .ldLMIyL | .ldMIxDdL _ | .ldMIyDdL _ | .ldMIxLL | .ldMIyLL | .ldHMIxDd _ | .ldHMIyDd _ | .ldHMIxL
  | .ldHMIyL | .ldMIxDdH _ | .ldMIyDdH _ | .ldMIxLH | .ldMIyLH | .slaMHl | .sllMHl | .sraMHl | .srlMHl
  | .rlMHl | .rlcMHl | .rrMHl | .rrcMHl | .cplMHl | .negMHl | .ldNbImm _ | .addBaBa | .addBaHl | .addBaIx
  | .addBaIy | .adcBaBa | .adcBaHl | .adcBaIx | .adcBaIy | .subBaBa | .subBaHl | .subBaIx | .subBaIy
  | .sbcBaBa | .sbcBaHl | .sbcBaIx | .sbcBaIy | .cpBaBa | .cpBaHl | .cpBaIx | .cpBaIy | .addHlBa | .addHlHl
  | .addHlIx | .addHlIy | .adcHlBa | .adcHlHl | .adcHlIx | .adcHlIy | .subHlBa | .subHlHl | .subHlIx
  | .subHlIy | .sbcHlBa | .sbcHlHl | .sbcHlIx | .sbcHlIy | .cpHlBa | .cpHlHl | .cpHlIx | .cpHlIy | .addIxBa
  | .addIxHl | .addIyBa | .addIyHl | .addSpBa | .addSpHl | .subIxBa | .subIxHl | .subIyBa | .subIyHl
  | .subSpBa | .subSpHl | .cpSpBa | .cpSpHl | .adcBaImm _ | .adcHlImm _ | .sbcBaImm _ | .sbcHlImm _
  | .addSpImm _ | .subSpImm _ | .cpSpImm _ | .ldSpImm _
      => .fixed 4
  | .ldBaMAbs _ | .ldHlMAbs _ | .ldIxMAbs _ | .ldIyMAbs _ | .ldMAbsBa _ | .ldMAbsHl _ | .ldMAbsIx _
  | .ldMAbsIy _ | .andMBrImm _ _ | .orMBrImm _ _ | .xorMBrImm _ _ | .addMHlImm _ | .addMHlMIx | .addMHlMIy
  | .adcMHlImm _ | .adcMHlMIx | .adcMHlMIy | .subMHlImm _ | .subMHlMIx | .subMHlMIy | .sbcMHlImm _
  | .sbcMHlMIx | .sbcMHlMIy | .andMHlImm _ | .andMHlMIx | .andMHlMIy | .orMHlImm _ | .orMHlMIx | .orMHlMIy
  | .xorMHlImm _ | .xorMHlMIx | .xorMHlMIy | .ldMHlMIxDd _ | .ldMHlMIyDd _ | .ldMHlMIxL | .ldMHlMIyL
  | .ldMIxMIxDd _ | .ldMIxMIyDd _ | .ldMIxMIxL | .ldMIxMIyL | .ldMIyMIxDd _ | .ldMIyMIyDd _ | .ldMIyMIxL
  | .ldMIyMIyL | .slaMBr _ | .sllMBr _ | .sraMBr _ | .srlMBr _ | .rlMBr _ | .rlcMBr _ | .rrMBr _ | .rrcMBr _
  | .cplMBr _ | .negMBr _ | .ldAMAbs _ | .ldBMAbs _ | .ldLMAbs _ | .ldHMAbs _ | .ldMAbsA _ | .ldMAbsB _
  | .ldMAbsL _ | .ldMAbsH _ | .ldBaMHl | .ldHlMHl | .ldIxMHl | .ldIyMHl | .ldMHlBa | .ldMHlHl | .ldMHlIx
  | .ldMHlIy | .ldBaMIx | .ldHlMIx | .ldIxMIx | .ldIyMIx | .ldMIxBa | .ldMIxHl | .ldMIxIx | .ldMIxIy
  | .ldBaMIy | .ldHlMIy | .ldIxMIy | .ldIyMIy | .ldMIyBa | .ldMIyHl | .ldMIyIx | .ldMIyIy
      => .fixed 5
  | .ldBaMSpDd _ | .ldHlMSpDd _ | .ldIxMSpDd _ | .ldIyMSpDd _ | .ldMSpDdBa _ | .ldMSpDdHl _ | .ldMSpDdIx _
  | .ldMSpDdIy _ | .ldSpMAbs _ | .ldMAbsSp _
      => .fixed 6
  | .popAll
      => .fixed 11
  | .mlt | .pushAll
      => .fixed 12
  | .div
      => .fixed 13
  | .popAle
      => .fixed 14
  | .pushAle
      => .fixed 15

/-- The count on a device, for a conditional call by whether it is taken (R590). -/
def Cycles.count (cfg : Config) (taken : Bool) : Cycles → Nat
  | .fixed n => n
  | .byMode lo hi => if cfg.maxMode then hi else lo
  | .call lo hi no => if taken then (if cfg.maxMode then hi else lo) else no

end Sys2Proof.Machine
end

