-- ==== Sys2Proof/Machine/Run.lean ====
section
/-! DEFINITION. How a run ends (R735) and what the host is told (R736). -/

namespace Sys2Proof.Machine

/-- Would the sampled inputs reset the CPU or have it take a factor? -/
def wakes (s : State) : Bool := s.pins.srLow || (pendingFactor s).isSome

/-- Does no sample to come wake the stopped CPU of `s`, neither one of the list nor the levels that stay behind its end? NMI edges are latched on the way, and a sampling point that takes nothing uses up the hold-off. -/
def neverWakes : List Pins → State → Bool
  | [], s =>
    let t := latchInputs (s.setSchedule [])
    !wakes t && !wakes (idlePoint t)
  | p :: rest, s =>
    let t := latchInputs (s.setSchedule (p :: rest))
    !wakes t && neverWakes rest (idlePoint t)

/-- The CPU waits in HALT or SLEEP. -/
def State.stopped (s : State) : Prop := s.status = .halt ∨ s.status = .sleep

/-- A run ends here by R735 (a): HALT or SLEEP, and the environment will deliver no acceptable interrupt and no reset. -/
def ended (s : State) : Bool := decide (s.status = .halt ∨ s.status = .sleep) && neverWakes s.schedule s

/-- The entry of spec/93_implementation_defined.md that a fault is: U1, U3, U4, U7, U9 or U10 (R736). -/
def Fault.entry : Fault → Nat
  | .undefinedOpcode _ => 1
  | .noMulDiv _ => 3
  | .noExpansion _ => 4
  | .unwrittenByte _ _ => 7
  | .unreadable _ _ => 9
  | .overlappedStore _ _ => 10

/-- How a run ends (R736); a fault reports its entry of spec/93_implementation_defined.md. A refusal cannot end a run, because no meaning answers with one; the constructor keeps the function total. -/
inductive RunEnd where
  | halted
  | sleeping
  | fault (id : Nat)
  | refused (r : Refusal)
  | budget
deriving DecidableEq, Repr

/-- A run of at most `n` steps: how it ends, and the final state. A fault ends it in the state the fault stops in, what its step did before kept: "no further state change" (R735 (b)). -/
def run : Nat → State → RunEnd × State
  | 0, s => if ended s then (if s.status = .halt then (.halted, s) else (.sleeping, s)) else (.budget, s)
  | n + 1, s =>
    if ended s then (if s.status = .halt then (.halted, s) else (.sleeping, s))
    else
      match step s with
      | .next t => run n t
      | .fault f => (.fault f.entry, f.state)
      | .refused r => (.refused r, s)

end Sys2Proof.Machine
end

