-- ==== Sys2Proof/Safety.lean ====
section
/-! DEFINITION. What claims about the machine speak of: the canonical memory, one byte of a state, stores and stack frames as total functions of a state, what the outside does on the bus, and what a step leaves unchanged. -/

namespace Sys2Proof.Machine

/-! States. -/

/-- Memory is in its canonical form. -/
def State.memWf (s : State) : Prop := s.mem.wf = true

/-- The status is not the transitive exception processing status (R700, log 33). -/
def State.settled (s : State) : Prop := s.status ≠ .exception

/-- Zero division is taken in the DIV itself, so no boundary finds it pending (R652, log 13). -/
def State.noZdivPending (s : State) : Prop := s.zdivPending = false

/-! The bus. -/

/-- SR does not go LOW between the memory accesses of this step. -/
def State.uncut (s : State) : Prop := ∀ c ∈ s.bus, c.cut = false

/-- The state behind the next break-point, where it is no reset: the bus master has acted (R69, R716). -/
def State.cycled (s : State) : State :=
  match s.bus with
  | [] => s
  | c :: rest => c.master.foldl masterAccess (s.setBus rest)

/-- The address a bus master's access writes. -/
def MasterAccess.written : MasterAccess → List Addr
  | .read _ => []
  | .write a _ => [a]

/-- The addresses the bus master writes in the break-points of this step. -/
def masterBytes (s : State) : List Addr := s.bus.flatMap fun c => c.master.flatMap MasterAccess.written

/-! Bytes and stores. -/

/-- The value a physical address holds, if it holds one: the read of one byte that frames speak of. -/
def State.byteAt (s : State) (a : Addr) : Option Byte := s.mem.byteAt a.toNat

/-- The state after a store in a step that SR does not cut: one bus cycle, in which the addressed memory does with the byte what it does (D8). -/
def State.put (s : State) (a : Addr) (v : Byte) : State := (s.cycled.hold a v).record (.write a v)

/-- The state after a 16-bit store at an offset of a page: low byte, then the byte above it in the page (R66). -/
def State.putWord (s : State) (page : Byte) (a : Word) (v : Word) : State :=
  (s.put (dataAddr s page a) (loByte v)).put (dataAddr s page (a + 1#16)) (hiByte v)

/-- The state with an 8-bit operand replaced. -/
def Loc8.put (v : Byte) (s : State) : Loc8 → State
  | .reg r => s.set8 r v
  | .mem m => s.put (m.ea s) v

/-- The addresses a store to the operand writes. -/
def Loc8.stored (s : State) : Loc8 → List Addr
  | .reg _ => []
  | .mem m => [m.ea s]

/-- The address of the upper byte of a 16-bit memory operand (R66). -/
def MemOp.eaUpper (s : State) (m : MemOp) : Addr := dataAddr s (m.page s) (m.offset s + 1#16)

/-- The state with a 16-bit operand replaced. -/
def Loc16.put (v : Word) (s : State) : Loc16 → State
  | .reg r => s.set16 r v
  | .mem m => s.putWord (m.page s) (m.offset s) v

/-- The addresses a store to the operand writes. -/
def Loc16.stored (s : State) : Loc16 → List Addr
  | .reg _ => []
  | .mem m => [m.ea s, m.eaUpper s]

/-- Does the operand take bus cycles? -/
def Loc8.onBus : Loc8 → Bool
  | .reg _ => false
  | .mem _ => true

/-- See `Loc8.onBus`. -/
def Src8.onBus : Src8 → Bool
  | .reg _ => false
  | .mem _ => true
  | .imm _ => false

/-- See `Loc8.onBus`. -/
def Loc16.onBus : Loc16 → Bool
  | .reg _ => false
  | .mem _ => true

/-- See `Loc8.onBus`. -/
def Src16.onBus : Src16 → Bool
  | .reg _ => false
  | .mem _ => true
  | .imm _ => false
  | .pc => false

/-! The stack. -/

/-- The state after pushing bytes, the first of the list first (R65). -/
def pushed : List Byte → State → State
  | [], s => s
  | v :: vs, s => pushed vs ((s.setSp (s.sp - 1#16)).put (stackAddr s (s.sp - 1#16)) v)

/-- The addresses of the `n` bytes below SP, the nearest first. -/
def belowSp (s : State) : Nat → List Addr
  | 0 => []
  | n + 1 => stackAddr s (s.sp - 1#16) :: belowSp (s.setSp (s.sp - 1#16)) n

/-- The bytes from SP up can be read one after the other and are these, the nearest first; `t` is the state behind them, SP included. -/
def stackHolds : State → List Byte → State → Prop
  | s, [], t => t = s
  | s, v :: vs, t => ∃ u, readByte s (stackAddr s s.sp) = .ok (v, u) ∧ stackHolds (u.setSp (u.sp + 1#16)) vs t

/-- The bytes a call pushes: CB in the maximum mode, then PC, upper byte first (R596). -/
def callFrame (s : State) : List Byte :=
  if s.cfg.maxMode then [s.cb, hiByte s.pc, loByte s.pc] else [hiByte s.pc, loByte s.pc]

/-- The bytes an exception pushes: a call frame, then SC (R664, R670). -/
def exceptionFrame (s : State) : List Byte := callFrame s ++ [s.sc]

/-! Flags. -/

/-- The state with N, V, C and Z written. -/
def State.withNVCZ (s : State) (n v c z : Bool) : State :=
  (((s.setFlag .n n).setFlag .v v).setFlag .c c).setFlag .z z

/-- The state with N and Z written. -/
def State.withNZ (s : State) (n z : Bool) : State := (s.setFlag .n n).setFlag .z z

/-! What stays. -/

/-- The fields of State other than SC and memory. -/
inductive Field where
  | a | b | l | h | br | nb | cb | ep | xp | yp | ix | iy | sp | pc
  | status | nmiPending | zdivPending | intHoldoff | iackLow | cfg | pins | schedule | bus | trace | freeCount
deriving DecidableEq, Repr

/-- The field has the same value in both states. -/
def Field.same (s t : State) : Field → Prop
  | .a => t.a = s.a
  | .b => t.b = s.b
  | .l => t.l = s.l
  | .h => t.h = s.h
  | .br => t.br = s.br
  | .nb => t.nb = s.nb
  | .cb => t.cb = s.cb
  | .ep => t.ep = s.ep
  | .xp => t.xp = s.xp
  | .yp => t.yp = s.yp
  | .ix => t.ix = s.ix
  | .iy => t.iy = s.iy
  | .sp => t.sp = s.sp
  | .pc => t.pc = s.pc
  | .status => t.status = s.status
  | .nmiPending => t.nmiPending = s.nmiPending
  | .zdivPending => t.zdivPending = s.zdivPending
  | .intHoldoff => t.intHoldoff = s.intHoldoff
  | .iackLow => t.iackLow = s.iackLow
  | .cfg => t.cfg = s.cfg
  | .pins => t.pins = s.pins
  | .schedule => t.schedule = s.schedule
  | .bus => t.bus = s.bus
  | .trace => t.trace = s.trace
  | .freeCount => t.freeCount = s.freeCount

/-- The fields a write to an 8-bit register changes; SC is its flags. -/
def Reg8.fields : Reg8 → List Field
  | .a => [.a]
  | .b => [.b]
  | .l => [.l]
  | .h => [.h]
  | .br => [.br]
  | .sc => []
  | .nb => [.nb]
  | .ep => [.ep]
  | .xp => [.xp]
  | .yp => [.yp]

/-- The fields a write to a 16-bit register changes. -/
def Reg16.fields : Reg16 → List Field
  | .ba => [.b, .a]
  | .hl => [.h, .l]
  | .ix => [.ix]
  | .iy => [.iy]
  | .sp => [.sp]

/-- The fields a write to an 8-bit operand changes. -/
def Loc8.fields : Loc8 → List Field
  | .reg r => r.fields
  | .mem _ => []

/-- The fields a write to a 16-bit operand changes. -/
def Loc16.fields : Loc16 → List Field
  | .reg r => r.fields
  | .mem _ => []

/-- All eight flags. -/
def Flag.all : List Flag := [.z, .c, .v, .n, .d, .u, .i0, .i1]

/-- The flags a write to an 8-bit operand changes: all if it is SC. -/
def Loc8.flags : Loc8 → List Flag
  | .reg .sc => Flag.all
  | .reg .a => []
  | .reg .b => []
  | .reg .l => []
  | .reg .h => []
  | .reg .br => []
  | .reg .nb => []
  | .reg .ep => []
  | .reg .xp => []
  | .reg .yp => []
  | .mem _ => []

/-- From `s` to `t` nothing changes but the listed fields, flags and bytes. -/
def Framed (s t : State) (fields : List Field) (flags : List Flag) (bytes : List Addr) : Prop :=
  (∀ f, f ∉ fields → f.same s t) ∧ (∀ g, g ∉ flags → t.flag g = s.flag g) ∧
    (∀ a, a ∉ bytes → t.byteAt a = s.byteAt a)

/-- `Framed` for an instruction: one that takes bus cycles also moves the bus and the trace on, and the bus master writes the bytes it writes in the break-points. -/
def Kept (onBus : Bool) (s t : State) (fields : List Field) (flags : List Flag) (bytes : List Addr) : Prop :=
  if onBus then Framed s t (.bus :: .trace :: fields) flags (bytes ++ masterBytes s)
  else Framed s t fields flags bytes

end Sys2Proof.Machine
end

