-- ==== Sys2Proof/Certificates/Slice0/Obligations.lean ====
section
/-! DEFINITION. The statements for the provers. First the rules of the spec as formulas on numbers and the instructions of each operation with their operands, written out again from the rules and not taken from the meanings; then the obligations. In a table of instructions the byte operand is `n`, a second byte operand `m`, a 16-bit operand `w`. -/

namespace Sys2Proof.Rules

open Sys2Proof.Machine

/-! Arithmetic on numbers. -/

/-- Add8 (R141). -/
def add8 (a b : Byte) (cin : Nat) : Alu 8 :=
  let sum := a.toNat + b.toNat + cin
  let exact : Int := a.toInt + b.toInt + cin
  { value := BitVec.ofNat 8 (sum % 256)
    n := decide (128 ≤ sum % 256)
    v := decide (exact < -128) || decide (127 < exact)
    c := decide (256 ≤ sum)
    z := decide (sum % 256 = 0) }

/-- Sub8 (R144). -/
def sub8 (a b : Byte) (bin : Nat) : Alu 8 :=
  let diff : Int := (a.toNat : Int) - b.toNat - bin
  let exact : Int := a.toInt - b.toInt - bin
  { value := BitVec.ofNat 8 (diff % 256).toNat
    n := decide (128 ≤ diff % 256)
    v := decide (exact < -128) || decide (127 < exact)
    c := decide (diff < 0)
    z := decide (diff % 256 = 0) }

/-- Both digits of the byte are 0 to 9 (R142). -/
def decimalByte (x : Byte) : Prop := x.toNat / 16 ≤ 9 ∧ x.toNat % 16 ≤ 9

/-- `val` of R142. -/
def decimalValue (x : Byte) : Nat := 10 * (x.toNat / 16) + x.toNat % 16

/-- A decimal result below 100 with the flags of R142. -/
def decimal8 (v : Nat) (c : Bool) : Alu 8 :=
  { value := BitVec.ofNat 8 (16 * (v / 10) + v % 10), n := false, v := false, c := c, z := decide (v = 0) }

/-- DecAdd8 (R142). -/
def decimalAdd (a b : Byte) (cin : Nat) : Alu 8 :=
  let t := decimalValue a + decimalValue b + cin
  decimal8 (t % 100) (decide (100 ≤ t))

/-- DecSub8 (R142). -/
def decimalSub (a b : Byte) (bin : Nat) : Alu 8 :=
  let t : Int := (decimalValue a : Int) - decimalValue b - bin
  decimal8 (t % 100).toNat (decide (t < 0))

/-- `s4` of R143: the signed value of the lower four bits. -/
def signed4 (x : Byte) : Int := if x.toNat % 16 < 8 then x.toNat % 16 else (x.toNat % 16 : Nat) - 16

/-- UnpAdd8 (R143). -/
def unpackAdd (a b : Byte) (cin : Nat) : Alu 8 :=
  let t := a.toNat % 16 + b.toNat % 16 + cin
  let exact : Int := signed4 a + signed4 b + cin
  { value := BitVec.ofNat 8 (t % 16)
    n := decide (8 ≤ t % 16)
    v := decide (exact < -8) || decide (7 < exact)
    c := decide (16 ≤ t)
    z := decide (t % 16 = 0) }

/-- UnpSub8 (R143). -/
def unpackSub (a b : Byte) (bin : Nat) : Alu 8 :=
  let t : Int := ((a.toNat % 16 : Nat) : Int) - (b.toNat % 16 : Nat) - bin
  let exact : Int := signed4 a - signed4 b - bin
  { value := BitVec.ofNat 8 (t % 16).toNat
    n := decide (8 ≤ t % 16)
    v := decide (exact < -8) || decide (7 < exact)
    c := decide (t < 0)
    z := decide (t % 16 = 0) }

/-- UnpDecAdd8 (R143, D14). -/
def unpackDecimalAdd (a b : Byte) (cin : Nat) : Alu 8 :=
  let t := a.toNat % 16 + b.toNat % 16 + cin
  { value := BitVec.ofNat 8 (t % 10), n := false, v := false, c := decide (10 ≤ t), z := decide (t % 10 = 0) }

/-- UnpDecSub8 (R143, D14). -/
def unpackDecimalSub (a b : Byte) (bin : Nat) : Alu 8 :=
  let t : Int := ((a.toNat % 16 : Nat) : Int) - (b.toNat % 16 : Nat) - bin
  { value := BitVec.ofNat 8 (t % 10).toNat, n := false, v := false, c := decide (t < 0),
    z := decide (t % 10 = 0) }

/-- The carry or borrow that goes in: C for ADC and SBC, 0 for ADD and SUB. -/
def carryIn (s : State) : ArithOp → Nat
  | .add => 0
  | .adc => (s.flag .c).toNat
  | .sub => 0
  | .sbc => (s.flag .c).toNat

/-- The addition for ADD and ADC, the subtraction for SUB and SBC. -/
def oneOf {α : Type} (addition subtraction : α) : ArithOp → α
  | .add => addition
  | .adc => addition
  | .sub => subtraction
  | .sbc => subtraction

/-- Add16 (R440). -/
def add16 (a b : Word) (cin : Nat) : Alu 16 :=
  let sum := a.toNat + b.toNat + cin
  let exact : Int := a.toInt + b.toInt + cin
  { value := BitVec.ofNat 16 (sum % 65536)
    n := decide (32768 ≤ sum % 65536)
    v := decide (exact < -32768) || decide (32767 < exact)
    c := decide (65536 ≤ sum)
    z := decide (sum % 65536 = 0) }

/-- Sub16 (R440). -/
def sub16 (a b : Word) (bin : Nat) : Alu 16 :=
  let diff : Int := (a.toNat : Int) - b.toNat - bin
  let exact : Int := a.toInt - b.toInt - bin
  { value := BitVec.ofNat 16 (diff % 65536).toNat
    n := decide (32768 ≤ diff % 65536)
    v := decide (exact < -32768) || decide (32767 < exact)
    c := decide (diff < 0)
    z := decide (diff % 65536 = 0) }

/-- The value a shift or rotate writes back, of operand `x` and C flag `cin` (R504 to R527). -/
def shifted (x cin : Nat) : ShiftOp → Nat
  | .sla => 2 * x % 256
  | .sll => 2 * x % 256
  | .sra => x / 2 + 128 * (x / 128)
  | .srl => x / 2
  | .rl => 2 * x % 256 + cin
  | .rlc => 2 * x % 256 + x / 128
  | .rr => x / 2 + 128 * cin
  | .rrc => x / 2 + 128 * (x % 2)

/-- The bit that goes to C: bit 7 to the left, bit 0 to the right (R504 to R527). -/
def shiftedOut (x : Nat) : ShiftOp → Bool
  | .sla => decide (128 ≤ x)
  | .sll => decide (128 ≤ x)
  | .sra => decide (x % 2 = 1)
  | .srl => decide (x % 2 = 1)
  | .rl => decide (128 ≤ x)
  | .rlc => decide (128 ≤ x)
  | .rr => decide (x % 2 = 1)
  | .rrc => decide (x % 2 = 1)

/-- V: whether the doubling of SLA leaves -128 to 127 (D27), 0 after SRA, else as before. -/
def shiftedV (s : State) (x : Byte) : ShiftOp → Bool
  | .sla => decide (2 * x.toInt < -128) || decide (127 < 2 * x.toInt)
  | .sra => false
  | .sll => s.flag .v
  | .srl => s.flag .v
  | .rl => s.flag .v
  | .rlc => s.flag .v
  | .rr => s.flag .v
  | .rrc => s.flag .v

/-- A shift or rotate: N and Z from the result (R500). -/
def shift8 (s : State) (x : Byte) (op : ShiftOp) : Alu 8 :=
  let r := shifted x.toNat (s.flag .c).toNat op
  { value := BitVec.ofNat 8 r, n := decide (128 ≤ r), v := shiftedV s x op,
    c := shiftedOut x.toNat op, z := decide (r = 0) }

/-- Bit by bit (R230). -/
def bitwise (a b : Byte) : LogicOp → Byte
  | .and => a &&& b
  | .or => a ||| b
  | .xor => a ^^^ b

/-! Results. -/

/-- The state with an 8-bit result stored and N, V, C, Z written. -/
def stored8 (dst : Loc8) (r : Alu 8) (s : State) : State :=
  (dst.put r.value s).withNVCZ r.n r.v r.c r.z

/-- The state with a 16-bit result in a register and N, V, C, Z written. -/
def stored16 (dst : Reg16) (r : Alu 16) (s : State) : State :=
  (s.set16 dst r.value).withNVCZ r.n r.v r.c r.z

/-- The state with an 8-bit result stored and N and Z written from it. -/
def storedNZ (dst : Loc8) (r : Byte) (s : State) : State :=
  (dst.put r s).withNZ (decide (128 ≤ r.toNat)) (decide (r.toNat = 0))

/-! Branches. -/

/-- When a condition holds (R593). -/
def conditionHolds (s : State) : Cond → Bool
  | .always => true
  | .c => s.flag .c == true
  | .nc => s.flag .c == false
  | .z => s.flag .z == true
  | .nz => s.flag .z == false
  | .lt => s.flag .n != s.flag .v
  | .le => s.flag .z || (s.flag .n != s.flag .v)
  | .gt => s.flag .z == false && (s.flag .n == s.flag .v)
  | .ge => s.flag .n == s.flag .v
  | .v => s.flag .v == true
  | .nv => s.flag .v == false
  | .p => s.flag .n == false
  | .m => s.flag .n == true
  | .f0 => decide (s.pins.f.toNat % 2 = 1)
  | .f1 => decide (s.pins.f.toNat / 2 % 2 = 1)
  | .f2 => decide (s.pins.f.toNat / 4 % 2 = 1)
  | .f3 => decide (s.pins.f.toNat / 8 % 2 = 1)
  | .nf0 => decide (s.pins.f.toNat % 2 = 0)
  | .nf1 => decide (s.pins.f.toNat / 2 % 2 = 0)
  | .nf2 => decide (s.pins.f.toNat / 4 % 2 = 0)
  | .nf3 => decide (s.pins.f.toNat / 8 % 2 = 0)

/-- Branch(target) (R591). -/
def branched (target : Word) (s : State) : State :=
  match s.cfg.model with
  | .model0 => s.setPc target
  | .model1 => s.setPc target
  | .model2 => (s.setPc target).setCb s.nb
  | .model3 => (s.setPc target).setCb s.nb

/-- NoBranch() (R592); PC stands at `pc_next`. -/
def fellThrough (s : State) : State :=
  match s.cfg.model with
  | .model0 => s
  | .model1 => s
  | .model2 => s.setNb s.cb
  | .model3 => s.setNb s.cb

/-- Rel8 and Rel16 (R594): `pc_next - 1 + offset`. -/
def relative (s : State) (offset : Word) : Word := BitVec.ofInt 16 ((s.pc.toNat : Int) - 1 + offset.toInt)

/-- The physical address of a byte of the vector field (R73). -/
def vectorAddr (kk : Byte) (i : Nat) : Addr := BitVec.ofNat 24 (kk.toNat + i)

/-- The vector at `kk` can be read and is `v`, low byte first (R73, R114); `t` is the state behind the two reads. -/
def vectorIs (s : State) (kk : Byte) (v : Word) (t : State) : Prop :=
  ∃ lo hi u, readByte s (vectorAddr kk 0) = .ok (lo, u) ∧ readByte u (vectorAddr kk 1) = .ok (hi, t) ∧
    v = pair hi lo

/-! Exceptions. -/

/-- The vector addresses (R651, R658). -/
def vectorOf (s : State) : Factor → Byte
  | .zeroDivision => 2#8
  | .nmi => 4#8
  | .irq3 => s.pins.vector3
  | .irq2 => s.pins.vector2
  | .irq1 => s.pins.vector1

/-- I1 and I0 after acceptance (R660); zero division leaves them (D17). -/
def maskedFor (s : State) : Factor → State
  | .zeroDivision => s
  | .nmi => (s.setFlag .i1 true).setFlag .i0 true
  | .irq3 => (s.setFlag .i1 true).setFlag .i0 true
  | .irq2 => (s.setFlag .i1 true).setFlag .i0 false
  | .irq1 => (s.setFlag .i1 false).setFlag .i0 true

/-- The latch of the accepted factor is cleared (R45). -/
def unlatched (s : State) : Factor → State
  | .zeroDivision => s.setZdivPending false
  | .nmi => s.setNmiPending false
  | .irq3 => s
  | .irq2 => s
  | .irq1 => s

/-- The factor that a sampling point takes, by the tables of R650 and R659. -/
def factorTaken (s : State) : Option Factor :=
  if s.zdivPending = true then some .zeroDivision
  else if s.intHoldoff = true ∨ s.pins.imaskLow = true then none
  else if s.nmiPending = true then some .nmi
  else if s.pins.irq3Low = true ∧ ¬(s.flag .i1 = true ∧ s.flag .i0 = true) then some .irq3
  else if s.pins.irq2Low = true ∧ s.flag .i1 = false then some .irq2
  else if s.pins.irq1Low = true ∧ s.flag .i1 = false ∧ s.flag .i0 = false then some .irq1
  else none

/-- What comes with a memory access, without the bus master. -/
def withoutMaster (c : BusCycle) : BusCycle := { master := [], cut := c.cut, data := c.data }

/-- From here on the bus master acts in no break-point (D6). -/
def sealed (s : State) : State := s.setBus (s.bus.map withoutMaster)

/-- From here on it acts in no break-point but the next one, which comes behind an instruction; behind another entry in none, IACK being LOW there (R656, R671). -/
def locked (s : State) : State :=
  if s.iackLow = true then sealed s
  else match s.bus with
    | [] => s
    | c :: rest => s.setBus (c :: rest.map withoutMaster)

/-- The bus in the entry of an accepted factor: in SLEEP the bus master does not act at all (D6). -/
def closed (s : State) : State := if s.status = .sleep then locked (sealed s) else locked s

/-- Exception processing has begun: its status (R664), IACK LOW (R719). -/
def acknowledged (s : State) : State := (s.setStatus .exception).setIackLow true

/-- The entry of an accepted factor has begun. -/
def entering (s : State) : State := acknowledged (closed s)

/-- The sampling point has taken nothing: the hold-off is used up (R655), IACK is HIGH (R719). -/
def passed (s : State) : State := (s.setIntHoldoff false).setIackLow false

/-- Nothing keeps the CPU from its next instruction: SR and BREQ are HIGH, the status is run, no factor is taken. -/
def runs (s : State) : Prop :=
  s.pins.srLow = false ∧ s.status = .run ∧ s.pins.breqLow = false ∧ pendingFactor s = none

/-- The bytes stand from logical address `a` on, each read at ProgAddr of its own address (R63, R67); `t` is the state behind the reads. -/
def bytesAt : List Byte → Word → State → State → Prop
  | [], _, s, t => t = s
  | b :: bs, a, s, t => ∃ u, readByte s (progAddr s a) = .ok (b, u) ∧ bytesAt bs (a + 1#16) u t

/-- The bytes of the instruction stand at PC; `t` is the state behind their fetch. -/
def fetches (s : State) (i : Instr) (t : State) : Prop := bytesAt (encode i) s.pc s t

/-- The state in which the instruction is executed, from the state behind its fetch: PC past its bytes, the hold-off used up, IACK HIGH, the next free value. -/
def begun (s : State) (i : Instr) : State :=
  ((passed s).setPc (s.pc + BitVec.ofNat 16 (encode i).length)).setFreeCount (s.freeCount + 1)

/-- The CPU takes the factor at this sampling point (R655). -/
def takes (s : State) (f : Factor) : Prop :=
  s.pins.srLow = false ∧ (s.status = .run ∨ s.status = .halt ∨ s.status = .sleep) ∧ pendingFactor s = some f

/-- The invariant that every step keeps: memory is canonical, the status is not the transitive one, no zero division waits. -/
def Inv (s : State) : Prop := s.memWf ∧ s.settled ∧ s.noZdivPending

/-- All bytes of a list of addresses are RAM. -/
def inRam (s : State) (l : List Addr) : Prop := ∀ a ∈ l, s.kindAt a = .ram

/-! Tables of instructions. -/

/-- An 8-bit arithmetic instruction: `dst ← left op right`. -/
structure Arith8Row where
  instr : Instr
  op : ArithOp
  dst : Loc8
  left : Src8
  right : Src8
deriving DecidableEq, Repr

/-- An instruction with two 8-bit operands, the first of which may be written. -/
structure Pair8Row where
  instr : Instr
  dst : Loc8
  src : Src8
deriving DecidableEq, Repr

/-- A logic instruction. -/
structure Logic8Row where
  instr : Instr
  op : LogicOp
  dst : Loc8
  left : Src8
  right : Src8
deriving DecidableEq, Repr

/-- An instruction with one 8-bit operand. -/
structure One8Row where
  instr : Instr
  loc : Loc8
deriving DecidableEq, Repr

/-- A shift or rotate. -/
structure ShiftRow where
  instr : Instr
  op : ShiftOp
  loc : Loc8
deriving DecidableEq, Repr

/-- A 16-bit transfer. -/
structure Load16Row where
  instr : Instr
  dst : Loc16
  src : Src16
deriving DecidableEq, Repr

/-- A 16-bit arithmetic instruction. -/
structure Arith16Row where
  instr : Instr
  op : ArithOp
  dst : Reg16
  src : Src16
deriving DecidableEq, Repr

/-- A 16-bit comparison. -/
structure Compare16Row where
  instr : Instr
  left : Reg16
  right : Src16
deriving DecidableEq, Repr

/-- An instruction with one 16-bit register. -/
structure One16Row where
  instr : Instr
  reg : Reg16
deriving DecidableEq, Repr

/-- A jump or call with its condition and its offset, sign extended. -/
structure BranchRow where
  instr : Instr
  cond : Cond
  offset : Word
deriving DecidableEq, Repr

/-- A register on the stack. -/
inductive Item where
  | byte (r : Reg8)
  | word (r : Reg16)
deriving DecidableEq, Repr

/-- An instruction that pushes or pops registers, in the order of its accesses. -/
structure StackRow where
  instr : Instr
  items : List Item
deriving DecidableEq, Repr

/-- The source that reads what the location holds. -/
def held : Loc8 → Src8
  | .reg r => .reg r
  | .mem m => .mem m

/-- A two operand instruction `dst ← dst op src`. -/
def arith (i : Instr) (op : ArithOp) (dst : Loc8) (src : Src8) : Arith8Row := ⟨i, op, dst, held dst, src⟩

/-- NEG: `loc ← 0 - loc` (R214 to R216). -/
def negation (i : Instr) (loc : Loc8) : Arith8Row := ⟨i, .sub, loc, .imm 0#8, held loc⟩

/-- A logic instruction `dst ← dst op src`. -/
def logical (i : Instr) (op : LogicOp) (dst : Loc8) (src : Src8) : Logic8Row := ⟨i, op, dst, held dst, src⟩

/-- Part 1 of `arith8Rows`. -/
def arith8Rows0 (n : Byte) (w : Word) : List Arith8Row :=
  [arith .addAA .add (.reg .a) (.reg .a), arith .addAB .add (.reg .a) (.reg .b),
   arith (.addAImm n) .add (.reg .a) (.imm n), arith .addAMHl .add (.reg .a) (.mem .hl),
   arith (.addAMBr n) .add (.reg .a) (.mem (.br n)), arith (.addAMAbs w) .add (.reg .a) (.mem (.abs w)),
   arith .addAMIx .add (.reg .a) (.mem .ix), arith .addAMIy .add (.reg .a) (.mem .iy),
   arith .adcAA .adc (.reg .a) (.reg .a), arith .adcAB .adc (.reg .a) (.reg .b),
   arith (.adcAImm n) .adc (.reg .a) (.imm n), arith .adcAMHl .adc (.reg .a) (.mem .hl),
   arith (.adcAMBr n) .adc (.reg .a) (.mem (.br n)), arith (.adcAMAbs w) .adc (.reg .a) (.mem (.abs w)),
   arith .adcAMIx .adc (.reg .a) (.mem .ix), arith .adcAMIy .adc (.reg .a) (.mem .iy),
   arith .subAA .sub (.reg .a) (.reg .a), arith .subAB .sub (.reg .a) (.reg .b),
   arith (.subAImm n) .sub (.reg .a) (.imm n), arith .subAMHl .sub (.reg .a) (.mem .hl),
   arith (.subAMBr n) .sub (.reg .a) (.mem (.br n)), arith (.subAMAbs w) .sub (.reg .a) (.mem (.abs w)),
   arith .subAMIx .sub (.reg .a) (.mem .ix), arith .subAMIy .sub (.reg .a) (.mem .iy)]

/-- Part 2 of `arith8Rows`. -/
def arith8Rows1 (n : Byte) (w : Word) : List Arith8Row :=
  [arith .sbcAA .sbc (.reg .a) (.reg .a), arith .sbcAB .sbc (.reg .a) (.reg .b),
   arith (.sbcAImm n) .sbc (.reg .a) (.imm n), arith .sbcAMHl .sbc (.reg .a) (.mem .hl),
   arith (.sbcAMBr n) .sbc (.reg .a) (.mem (.br n)), arith (.sbcAMAbs w) .sbc (.reg .a) (.mem (.abs w)),
   arith .sbcAMIx .sbc (.reg .a) (.mem .ix), arith .sbcAMIy .sbc (.reg .a) (.mem .iy),
   arith (.addAMIxDd n) .add (.reg .a) (.mem (.ixd n)),
   arith (.addAMIyDd n) .add (.reg .a) (.mem (.iyd n)), arith .addAMIxL .add (.reg .a) (.mem .ixl),
   arith .addAMIyL .add (.reg .a) (.mem .iyl), arith .addMHlA .add (.mem .hl) (.reg .a),
   arith (.addMHlImm n) .add (.mem .hl) (.imm n), arith .addMHlMIx .add (.mem .hl) (.mem .ix),
   arith .addMHlMIy .add (.mem .hl) (.mem .iy), arith (.adcAMIxDd n) .adc (.reg .a) (.mem (.ixd n)),
   arith (.adcAMIyDd n) .adc (.reg .a) (.mem (.iyd n)), arith .adcAMIxL .adc (.reg .a) (.mem .ixl),
   arith .adcAMIyL .adc (.reg .a) (.mem .iyl), arith .adcMHlA .adc (.mem .hl) (.reg .a),
   arith (.adcMHlImm n) .adc (.mem .hl) (.imm n), arith .adcMHlMIx .adc (.mem .hl) (.mem .ix),
   arith .adcMHlMIy .adc (.mem .hl) (.mem .iy)]

/-- Part 3 of `arith8Rows`. -/
def arith8Rows2 (n : Byte) : List Arith8Row :=
  [arith (.subAMIxDd n) .sub (.reg .a) (.mem (.ixd n)),
   arith (.subAMIyDd n) .sub (.reg .a) (.mem (.iyd n)), arith .subAMIxL .sub (.reg .a) (.mem .ixl),
   arith .subAMIyL .sub (.reg .a) (.mem .iyl), arith .subMHlA .sub (.mem .hl) (.reg .a),
   arith (.subMHlImm n) .sub (.mem .hl) (.imm n), arith .subMHlMIx .sub (.mem .hl) (.mem .ix),
   arith .subMHlMIy .sub (.mem .hl) (.mem .iy), arith (.sbcAMIxDd n) .sbc (.reg .a) (.mem (.ixd n)),
   arith (.sbcAMIyDd n) .sbc (.reg .a) (.mem (.iyd n)), arith .sbcAMIxL .sbc (.reg .a) (.mem .ixl),
   arith .sbcAMIyL .sbc (.reg .a) (.mem .iyl), arith .sbcMHlA .sbc (.mem .hl) (.reg .a),
   arith (.sbcMHlImm n) .sbc (.mem .hl) (.imm n), arith .sbcMHlMIx .sbc (.mem .hl) (.mem .ix),
   arith .sbcMHlMIy .sbc (.mem .hl) (.mem .iy), negation .negA (.reg .a), negation .negB (.reg .b),
   negation (.negMBr n) (.mem (.br n)), negation .negMHl (.mem .hl)]

/-- ADD, ADC, SUB, SBC (R140) and NEG. -/
def arith8Rows (n : Byte) (w : Word) : List Arith8Row :=
  arith8Rows0 n w ++ arith8Rows1 n w ++ arith8Rows2 n

/-- CP (R190 to R205). -/
def compare8Rows (n : Byte) (m : Byte) (w : Word) : List Pair8Row :=
  [⟨.cpAA, (.reg .a), (.reg .a)⟩, ⟨.cpAB, (.reg .a), (.reg .b)⟩, ⟨.cpAImm n, (.reg .a), (.imm n)⟩,
   ⟨.cpAMHl, (.reg .a), (.mem .hl)⟩, ⟨.cpAMBr n, (.reg .a), (.mem (.br n))⟩,
   ⟨.cpAMAbs w, (.reg .a), (.mem (.abs w))⟩, ⟨.cpAMIx, (.reg .a), (.mem .ix)⟩,
   ⟨.cpAMIy, (.reg .a), (.mem .iy)⟩, ⟨.cpMBrImm n m, (.mem (.br n)), (.imm m)⟩,
   ⟨.cpAMIxDd n, (.reg .a), (.mem (.ixd n))⟩, ⟨.cpAMIyDd n, (.reg .a), (.mem (.iyd n))⟩,
   ⟨.cpAMIxL, (.reg .a), (.mem .ixl)⟩, ⟨.cpAMIyL, (.reg .a), (.mem .iyl)⟩,
   ⟨.cpMHlA, (.mem .hl), (.reg .a)⟩, ⟨.cpMHlImm n, (.mem .hl), (.imm n)⟩,
   ⟨.cpMHlMIx, (.mem .hl), (.mem .ix)⟩, ⟨.cpMHlMIy, (.mem .hl), (.mem .iy)⟩,
   ⟨.cpBImm n, (.reg .b), (.imm n)⟩, ⟨.cpLImm n, (.reg .l), (.imm n)⟩, ⟨.cpHImm n, (.reg .h), (.imm n)⟩,
   ⟨.cpBrImm n, (.reg .br), (.imm n)⟩]

/-- INC of 8 bits (R206 to R209). -/
def inc8Rows (n : Byte) : List One8Row :=
  [⟨.incA, (.reg .a)⟩, ⟨.incB, (.reg .b)⟩, ⟨.incL, (.reg .l)⟩, ⟨.incH, (.reg .h)⟩, ⟨.incBr, (.reg .br)⟩,
   ⟨.incMBr n, (.mem (.br n))⟩, ⟨.incMHl, (.mem .hl)⟩]

/-- DEC of 8 bits (R210 to R213). -/
def dec8Rows (n : Byte) : List One8Row :=
  [⟨.decA, (.reg .a)⟩, ⟨.decB, (.reg .b)⟩, ⟨.decL, (.reg .l)⟩, ⟨.decH, (.reg .h)⟩, ⟨.decBr, (.reg .br)⟩,
   ⟨.decMBr n, (.mem (.br n))⟩, ⟨.decMHl, (.mem .hl)⟩]

/-- Part 1 of `logic8Rows`. -/
def logic8Rows0 (n : Byte) (w : Word) : List Logic8Row :=
  [logical .andAA .and (.reg .a) (.reg .a), logical .andAB .and (.reg .a) (.reg .b),
   logical (.andAImm n) .and (.reg .a) (.imm n), logical .andAMHl .and (.reg .a) (.mem .hl),
   logical (.andAMBr n) .and (.reg .a) (.mem (.br n)),
   logical (.andAMAbs w) .and (.reg .a) (.mem (.abs w)), logical .andAMIx .and (.reg .a) (.mem .ix),
   logical .andAMIy .and (.reg .a) (.mem .iy), logical .orAA .or (.reg .a) (.reg .a),
   logical .orAB .or (.reg .a) (.reg .b), logical (.orAImm n) .or (.reg .a) (.imm n),
   logical .orAMHl .or (.reg .a) (.mem .hl), logical (.orAMBr n) .or (.reg .a) (.mem (.br n)),
   logical (.orAMAbs w) .or (.reg .a) (.mem (.abs w)), logical .orAMIx .or (.reg .a) (.mem .ix),
   logical .orAMIy .or (.reg .a) (.mem .iy), logical .xorAA .xor (.reg .a) (.reg .a),
   logical .xorAB .xor (.reg .a) (.reg .b), logical (.xorAImm n) .xor (.reg .a) (.imm n),
   logical .xorAMHl .xor (.reg .a) (.mem .hl), logical (.xorAMBr n) .xor (.reg .a) (.mem (.br n)),
   logical (.xorAMAbs w) .xor (.reg .a) (.mem (.abs w)), logical .xorAMIx .xor (.reg .a) (.mem .ix),
   logical .xorAMIy .xor (.reg .a) (.mem .iy)]

/-- Part 2 of `logic8Rows`. -/
def logic8Rows1 (n : Byte) (m : Byte) : List Logic8Row :=
  [logical (.andMBrImm n m) .and (.mem (.br n)) (.imm m),
   logical (.orMBrImm n m) .or (.mem (.br n)) (.imm m),
   logical (.xorMBrImm n m) .xor (.mem (.br n)) (.imm m),
   logical (.andAMIxDd n) .and (.reg .a) (.mem (.ixd n)),
   logical (.andAMIyDd n) .and (.reg .a) (.mem (.iyd n)), logical .andAMIxL .and (.reg .a) (.mem .ixl),
   logical .andAMIyL .and (.reg .a) (.mem .iyl), logical .andMHlA .and (.mem .hl) (.reg .a),
   logical (.andMHlImm n) .and (.mem .hl) (.imm n), logical .andMHlMIx .and (.mem .hl) (.mem .ix),
   logical .andMHlMIy .and (.mem .hl) (.mem .iy), logical (.orAMIxDd n) .or (.reg .a) (.mem (.ixd n)),
   logical (.orAMIyDd n) .or (.reg .a) (.mem (.iyd n)), logical .orAMIxL .or (.reg .a) (.mem .ixl),
   logical .orAMIyL .or (.reg .a) (.mem .iyl), logical .orMHlA .or (.mem .hl) (.reg .a),
   logical (.orMHlImm n) .or (.mem .hl) (.imm n), logical .orMHlMIx .or (.mem .hl) (.mem .ix),
   logical .orMHlMIy .or (.mem .hl) (.mem .iy), logical (.xorAMIxDd n) .xor (.reg .a) (.mem (.ixd n)),
   logical (.xorAMIyDd n) .xor (.reg .a) (.mem (.iyd n)), logical .xorAMIxL .xor (.reg .a) (.mem .ixl),
   logical .xorAMIyL .xor (.reg .a) (.mem .iyl), logical .xorMHlA .xor (.mem .hl) (.reg .a)]

/-- Part 3 of `logic8Rows`. -/
def logic8Rows2 (n : Byte) : List Logic8Row :=
  [logical (.xorMHlImm n) .xor (.mem .hl) (.imm n), logical .xorMHlMIx .xor (.mem .hl) (.mem .ix),
   logical .xorMHlMIy .xor (.mem .hl) (.mem .iy), logical (.andBImm n) .and (.reg .b) (.imm n),
   logical (.andLImm n) .and (.reg .l) (.imm n), logical (.andHImm n) .and (.reg .h) (.imm n),
   logical (.orBImm n) .or (.reg .b) (.imm n), logical (.orLImm n) .or (.reg .l) (.imm n),
   logical (.orHImm n) .or (.reg .h) (.imm n), logical (.xorBImm n) .xor (.reg .b) (.imm n),
   logical (.xorLImm n) .xor (.reg .l) (.imm n), logical (.xorHImm n) .xor (.reg .h) (.imm n)]

/-- AND, OR, XOR (R232 to R279). -/
def logic8Rows (n m : Byte) (w : Word) : List Logic8Row :=
  logic8Rows0 n w ++ logic8Rows1 n m ++ logic8Rows2 n

/-- BIT (R280 to R284). -/
def bitTestRows (n : Byte) (m : Byte) : List Pair8Row :=
  [⟨.bitAB, (.reg .a), (.reg .b)⟩, ⟨.bitMHlImm n, (.mem .hl), (.imm n)⟩,
   ⟨.bitAImm n, (.reg .a), (.imm n)⟩, ⟨.bitBImm n, (.reg .b), (.imm n)⟩,
   ⟨.bitMBrImm n m, (.mem (.br n)), (.imm m)⟩]

/-- CPL (R285 to R287). -/
def complementRows (n : Byte) : List One8Row :=
  [⟨.cplA, (.reg .a)⟩, ⟨.cplB, (.reg .b)⟩, ⟨.cplMBr n, (.mem (.br n))⟩, ⟨.cplMHl, (.mem .hl)⟩]

/-- Part 1 of `load8Rows`. -/
def load8Rows0 (n : Byte) : List Pair8Row :=
  [⟨.ldAA, (.reg .a), (.reg .a)⟩, ⟨.ldAB, (.reg .a), (.reg .b)⟩, ⟨.ldAL, (.reg .a), (.reg .l)⟩,
   ⟨.ldAH, (.reg .a), (.reg .h)⟩, ⟨.ldAMBr n, (.reg .a), (.mem (.br n))⟩,
   ⟨.ldAMHl, (.reg .a), (.mem .hl)⟩, ⟨.ldAMIx, (.reg .a), (.mem .ix)⟩, ⟨.ldAMIy, (.reg .a), (.mem .iy)⟩,
   ⟨.ldBA, (.reg .b), (.reg .a)⟩, ⟨.ldBB, (.reg .b), (.reg .b)⟩, ⟨.ldBL, (.reg .b), (.reg .l)⟩,
   ⟨.ldBH, (.reg .b), (.reg .h)⟩, ⟨.ldBMBr n, (.reg .b), (.mem (.br n))⟩,
   ⟨.ldBMHl, (.reg .b), (.mem .hl)⟩, ⟨.ldBMIx, (.reg .b), (.mem .ix)⟩, ⟨.ldBMIy, (.reg .b), (.mem .iy)⟩,
   ⟨.ldLA, (.reg .l), (.reg .a)⟩, ⟨.ldLB, (.reg .l), (.reg .b)⟩, ⟨.ldLL, (.reg .l), (.reg .l)⟩,
   ⟨.ldLH, (.reg .l), (.reg .h)⟩, ⟨.ldLMBr n, (.reg .l), (.mem (.br n))⟩,
   ⟨.ldLMHl, (.reg .l), (.mem .hl)⟩, ⟨.ldLMIx, (.reg .l), (.mem .ix)⟩, ⟨.ldLMIy, (.reg .l), (.mem .iy)⟩]

/-- Part 2 of `load8Rows`. -/
def load8Rows1 (n : Byte) : List Pair8Row :=
  [⟨.ldHA, (.reg .h), (.reg .a)⟩, ⟨.ldHB, (.reg .h), (.reg .b)⟩, ⟨.ldHL, (.reg .h), (.reg .l)⟩,
   ⟨.ldHH, (.reg .h), (.reg .h)⟩, ⟨.ldHMBr n, (.reg .h), (.mem (.br n))⟩,
   ⟨.ldHMHl, (.reg .h), (.mem .hl)⟩, ⟨.ldHMIx, (.reg .h), (.mem .ix)⟩, ⟨.ldHMIy, (.reg .h), (.mem .iy)⟩,
   ⟨.ldMIxA, (.mem .ix), (.reg .a)⟩, ⟨.ldMIxB, (.mem .ix), (.reg .b)⟩, ⟨.ldMIxL, (.mem .ix), (.reg .l)⟩,
   ⟨.ldMIxH, (.mem .ix), (.reg .h)⟩, ⟨.ldMIxMBr n, (.mem .ix), (.mem (.br n))⟩,
   ⟨.ldMIxMHl, (.mem .ix), (.mem .hl)⟩, ⟨.ldMIxMIx, (.mem .ix), (.mem .ix)⟩,
   ⟨.ldMIxMIy, (.mem .ix), (.mem .iy)⟩, ⟨.ldMHlA, (.mem .hl), (.reg .a)⟩,
   ⟨.ldMHlB, (.mem .hl), (.reg .b)⟩, ⟨.ldMHlL, (.mem .hl), (.reg .l)⟩, ⟨.ldMHlH, (.mem .hl), (.reg .h)⟩,
   ⟨.ldMHlMBr n, (.mem .hl), (.mem (.br n))⟩, ⟨.ldMHlMHl, (.mem .hl), (.mem .hl)⟩,
   ⟨.ldMHlMIx, (.mem .hl), (.mem .ix)⟩, ⟨.ldMHlMIy, (.mem .hl), (.mem .iy)⟩]

/-- Part 3 of `load8Rows`. -/
def load8Rows2 (n : Byte) : List Pair8Row :=
  [⟨.ldMIyA, (.mem .iy), (.reg .a)⟩, ⟨.ldMIyB, (.mem .iy), (.reg .b)⟩, ⟨.ldMIyL, (.mem .iy), (.reg .l)⟩,
   ⟨.ldMIyH, (.mem .iy), (.reg .h)⟩, ⟨.ldMIyMBr n, (.mem .iy), (.mem (.br n))⟩,
   ⟨.ldMIyMHl, (.mem .iy), (.mem .hl)⟩, ⟨.ldMIyMIx, (.mem .iy), (.mem .ix)⟩,
   ⟨.ldMIyMIy, (.mem .iy), (.mem .iy)⟩, ⟨.ldMBrA n, (.mem (.br n)), (.reg .a)⟩,
   ⟨.ldMBrB n, (.mem (.br n)), (.reg .b)⟩, ⟨.ldMBrL n, (.mem (.br n)), (.reg .l)⟩,
   ⟨.ldMBrH n, (.mem (.br n)), (.reg .h)⟩, ⟨.ldMBrMHl n, (.mem (.br n)), (.mem .hl)⟩,
   ⟨.ldMBrMIx n, (.mem (.br n)), (.mem .ix)⟩, ⟨.ldMBrMIy n, (.mem (.br n)), (.mem .iy)⟩,
   ⟨.ldScImm n, (.reg .sc), (.imm n)⟩, ⟨.ldAImm n, (.reg .a), (.imm n)⟩, ⟨.ldBImm n, (.reg .b), (.imm n)⟩,
   ⟨.ldLImm n, (.reg .l), (.imm n)⟩, ⟨.ldHImm n, (.reg .h), (.imm n)⟩, ⟨.ldBrImm n, (.reg .br), (.imm n)⟩,
   ⟨.ldMHlImm n, (.mem .hl), (.imm n)⟩, ⟨.ldMIxImm n, (.mem .ix), (.imm n)⟩,
   ⟨.ldMIyImm n, (.mem .iy), (.imm n)⟩]

/-- Part 4 of `load8Rows`. -/
def load8Rows3 (n : Byte) (m : Byte) : List Pair8Row :=
  [⟨.ldMBrImm n m, (.mem (.br n)), (.imm m)⟩, ⟨.ldAMIxDd n, (.reg .a), (.mem (.ixd n))⟩,
   ⟨.ldAMIyDd n, (.reg .a), (.mem (.iyd n))⟩, ⟨.ldAMIxL, (.reg .a), (.mem .ixl)⟩,
   ⟨.ldAMIyL, (.reg .a), (.mem .iyl)⟩, ⟨.ldMIxDdA n, (.mem (.ixd n)), (.reg .a)⟩,
   ⟨.ldMIyDdA n, (.mem (.iyd n)), (.reg .a)⟩, ⟨.ldMIxLA, (.mem .ixl), (.reg .a)⟩,
   ⟨.ldMIyLA, (.mem .iyl), (.reg .a)⟩, ⟨.ldBMIxDd n, (.reg .b), (.mem (.ixd n))⟩,
   ⟨.ldBMIyDd n, (.reg .b), (.mem (.iyd n))⟩, ⟨.ldBMIxL, (.reg .b), (.mem .ixl)⟩,
   ⟨.ldBMIyL, (.reg .b), (.mem .iyl)⟩, ⟨.ldMIxDdB n, (.mem (.ixd n)), (.reg .b)⟩,
   ⟨.ldMIyDdB n, (.mem (.iyd n)), (.reg .b)⟩, ⟨.ldMIxLB, (.mem .ixl), (.reg .b)⟩,
   ⟨.ldMIyLB, (.mem .iyl), (.reg .b)⟩, ⟨.ldLMIxDd n, (.reg .l), (.mem (.ixd n))⟩,
   ⟨.ldLMIyDd n, (.reg .l), (.mem (.iyd n))⟩, ⟨.ldLMIxL, (.reg .l), (.mem .ixl)⟩,
   ⟨.ldLMIyL, (.reg .l), (.mem .iyl)⟩, ⟨.ldMIxDdL n, (.mem (.ixd n)), (.reg .l)⟩,
   ⟨.ldMIyDdL n, (.mem (.iyd n)), (.reg .l)⟩, ⟨.ldMIxLL, (.mem .ixl), (.reg .l)⟩]

/-- Part 5 of `load8Rows`. -/
def load8Rows4 (n : Byte) : List Pair8Row :=
  [⟨.ldMIyLL, (.mem .iyl), (.reg .l)⟩, ⟨.ldHMIxDd n, (.reg .h), (.mem (.ixd n))⟩,
   ⟨.ldHMIyDd n, (.reg .h), (.mem (.iyd n))⟩, ⟨.ldHMIxL, (.reg .h), (.mem .ixl)⟩,
   ⟨.ldHMIyL, (.reg .h), (.mem .iyl)⟩, ⟨.ldMIxDdH n, (.mem (.ixd n)), (.reg .h)⟩,
   ⟨.ldMIyDdH n, (.mem (.iyd n)), (.reg .h)⟩, ⟨.ldMIxLH, (.mem .ixl), (.reg .h)⟩,
   ⟨.ldMIyLH, (.mem .iyl), (.reg .h)⟩, ⟨.ldMHlMIxDd n, (.mem .hl), (.mem (.ixd n))⟩,
   ⟨.ldMHlMIyDd n, (.mem .hl), (.mem (.iyd n))⟩, ⟨.ldMHlMIxL, (.mem .hl), (.mem .ixl)⟩,
   ⟨.ldMHlMIyL, (.mem .hl), (.mem .iyl)⟩, ⟨.ldMIxMIxDd n, (.mem .ix), (.mem (.ixd n))⟩,
   ⟨.ldMIxMIyDd n, (.mem .ix), (.mem (.iyd n))⟩, ⟨.ldMIxMIxL, (.mem .ix), (.mem .ixl)⟩,
   ⟨.ldMIxMIyL, (.mem .ix), (.mem .iyl)⟩, ⟨.ldMIyMIxDd n, (.mem .iy), (.mem (.ixd n))⟩,
   ⟨.ldMIyMIyDd n, (.mem .iy), (.mem (.iyd n))⟩, ⟨.ldMIyMIxL, (.mem .iy), (.mem .ixl)⟩,
   ⟨.ldMIyMIyL, (.mem .iy), (.mem .iyl)⟩, ⟨.ldABr, (.reg .a), (.reg .br)⟩,
   ⟨.ldASc, (.reg .a), (.reg .sc)⟩, ⟨.ldBrA, (.reg .br), (.reg .a)⟩]

/-- Part 6 of `load8Rows`. -/
def load8Rows5 (n : Byte) (w : Word) : List Pair8Row :=
  [⟨.ldScA, (.reg .sc), (.reg .a)⟩, ⟨.ldNbImm n, (.reg .nb), (.imm n)⟩,
   ⟨.ldEpImm n, (.reg .ep), (.imm n)⟩, ⟨.ldXpImm n, (.reg .xp), (.imm n)⟩,
   ⟨.ldYpImm n, (.reg .yp), (.imm n)⟩, ⟨.ldANb, (.reg .a), (.reg .nb)⟩, ⟨.ldAEp, (.reg .a), (.reg .ep)⟩,
   ⟨.ldAXp, (.reg .a), (.reg .xp)⟩, ⟨.ldAYp, (.reg .a), (.reg .yp)⟩, ⟨.ldNbA, (.reg .nb), (.reg .a)⟩,
   ⟨.ldEpA, (.reg .ep), (.reg .a)⟩, ⟨.ldXpA, (.reg .xp), (.reg .a)⟩, ⟨.ldYpA, (.reg .yp), (.reg .a)⟩,
   ⟨.ldAMAbs w, (.reg .a), (.mem (.abs w))⟩, ⟨.ldBMAbs w, (.reg .b), (.mem (.abs w))⟩,
   ⟨.ldLMAbs w, (.reg .l), (.mem (.abs w))⟩, ⟨.ldHMAbs w, (.reg .h), (.mem (.abs w))⟩,
   ⟨.ldMAbsA w, (.mem (.abs w)), (.reg .a)⟩, ⟨.ldMAbsB w, (.mem (.abs w)), (.reg .b)⟩,
   ⟨.ldMAbsL w, (.mem (.abs w)), (.reg .l)⟩, ⟨.ldMAbsH w, (.mem (.abs w)), (.reg .h)⟩]

/-- LD of 8 bits (R301 to R354). -/
def load8Rows (n m : Byte) (w : Word) : List Pair8Row :=
  load8Rows0 n ++ load8Rows1 n ++ load8Rows2 n ++ load8Rows3 n m ++ load8Rows4 n ++ load8Rows5 n w

/-- SWAP (R357, R358). -/
def swapRows : List One8Row :=
  [⟨.swapA, (.reg .a)⟩, ⟨.swapMHl, (.mem .hl)⟩]

/-- Part 1 of `load16Rows`. -/
def load16Rows0 (n : Byte) (w : Word) : List Load16Row :=
  [⟨.ldBaMAbs w, (.reg .ba), (.mem (.abs w))⟩, ⟨.ldHlMAbs w, (.reg .hl), (.mem (.abs w))⟩,
   ⟨.ldIxMAbs w, (.reg .ix), (.mem (.abs w))⟩, ⟨.ldIyMAbs w, (.reg .iy), (.mem (.abs w))⟩,
   ⟨.ldMAbsBa w, (.mem (.abs w)), (.reg .ba)⟩, ⟨.ldMAbsHl w, (.mem (.abs w)), (.reg .hl)⟩,
   ⟨.ldMAbsIx w, (.mem (.abs w)), (.reg .ix)⟩, ⟨.ldMAbsIy w, (.mem (.abs w)), (.reg .iy)⟩,
   ⟨.ldBaImm w, (.reg .ba), (.imm w)⟩, ⟨.ldHlImm w, (.reg .hl), (.imm w)⟩,
   ⟨.ldIxImm w, (.reg .ix), (.imm w)⟩, ⟨.ldIyImm w, (.reg .iy), (.imm w)⟩,
   ⟨.ldSpImm w, (.reg .sp), (.imm w)⟩, ⟨.ldBaMSpDd n, (.reg .ba), (.mem (.spd n))⟩,
   ⟨.ldHlMSpDd n, (.reg .hl), (.mem (.spd n))⟩, ⟨.ldIxMSpDd n, (.reg .ix), (.mem (.spd n))⟩,
   ⟨.ldIyMSpDd n, (.reg .iy), (.mem (.spd n))⟩, ⟨.ldMSpDdBa n, (.mem (.spd n)), (.reg .ba)⟩,
   ⟨.ldMSpDdHl n, (.mem (.spd n)), (.reg .hl)⟩, ⟨.ldMSpDdIx n, (.mem (.spd n)), (.reg .ix)⟩,
   ⟨.ldMSpDdIy n, (.mem (.spd n)), (.reg .iy)⟩, ⟨.ldSpMAbs w, (.reg .sp), (.mem (.abs w))⟩,
   ⟨.ldMAbsSp w, (.mem (.abs w)), (.reg .sp)⟩, ⟨.ldBaMHl, (.reg .ba), (.mem .hl)⟩]

/-- Part 2 of `load16Rows`. -/
def load16Rows1 : List Load16Row :=
  [⟨.ldHlMHl, (.reg .hl), (.mem .hl)⟩, ⟨.ldIxMHl, (.reg .ix), (.mem .hl)⟩,
   ⟨.ldIyMHl, (.reg .iy), (.mem .hl)⟩, ⟨.ldMHlBa, (.mem .hl), (.reg .ba)⟩,
   ⟨.ldMHlHl, (.mem .hl), (.reg .hl)⟩, ⟨.ldMHlIx, (.mem .hl), (.reg .ix)⟩,
   ⟨.ldMHlIy, (.mem .hl), (.reg .iy)⟩, ⟨.ldBaMIx, (.reg .ba), (.mem .ix)⟩,
   ⟨.ldHlMIx, (.reg .hl), (.mem .ix)⟩, ⟨.ldIxMIx, (.reg .ix), (.mem .ix)⟩,
   ⟨.ldIyMIx, (.reg .iy), (.mem .ix)⟩, ⟨.ldMIxBa, (.mem .ix), (.reg .ba)⟩,
   ⟨.ldMIxHl, (.mem .ix), (.reg .hl)⟩, ⟨.ldMIxIx, (.mem .ix), (.reg .ix)⟩,
   ⟨.ldMIxIy, (.mem .ix), (.reg .iy)⟩, ⟨.ldBaMIy, (.reg .ba), (.mem .iy)⟩,
   ⟨.ldHlMIy, (.reg .hl), (.mem .iy)⟩, ⟨.ldIxMIy, (.reg .ix), (.mem .iy)⟩,
   ⟨.ldIyMIy, (.reg .iy), (.mem .iy)⟩, ⟨.ldMIyBa, (.mem .iy), (.reg .ba)⟩,
   ⟨.ldMIyHl, (.mem .iy), (.reg .hl)⟩, ⟨.ldMIyIx, (.mem .iy), (.reg .ix)⟩,
   ⟨.ldMIyIy, (.mem .iy), (.reg .iy)⟩, ⟨.ldBaBa, (.reg .ba), (.reg .ba)⟩]

/-- Part 3 of `load16Rows`. -/
def load16Rows2 : List Load16Row :=
  [⟨.ldBaHl, (.reg .ba), (.reg .hl)⟩, ⟨.ldBaIx, (.reg .ba), (.reg .ix)⟩,
   ⟨.ldBaIy, (.reg .ba), (.reg .iy)⟩, ⟨.ldHlBa, (.reg .hl), (.reg .ba)⟩,
   ⟨.ldHlHl, (.reg .hl), (.reg .hl)⟩, ⟨.ldHlIx, (.reg .hl), (.reg .ix)⟩,
   ⟨.ldHlIy, (.reg .hl), (.reg .iy)⟩, ⟨.ldIxBa, (.reg .ix), (.reg .ba)⟩,
   ⟨.ldIxHl, (.reg .ix), (.reg .hl)⟩, ⟨.ldIxIx, (.reg .ix), (.reg .ix)⟩,
   ⟨.ldIxIy, (.reg .ix), (.reg .iy)⟩, ⟨.ldIyBa, (.reg .iy), (.reg .ba)⟩,
   ⟨.ldIyHl, (.reg .iy), (.reg .hl)⟩, ⟨.ldIyIx, (.reg .iy), (.reg .ix)⟩,
   ⟨.ldIyIy, (.reg .iy), (.reg .iy)⟩, ⟨.ldSpBa, (.reg .sp), (.reg .ba)⟩,
   ⟨.ldSpHl, (.reg .sp), (.reg .hl)⟩, ⟨.ldSpIx, (.reg .sp), (.reg .ix)⟩,
   ⟨.ldSpIy, (.reg .sp), (.reg .iy)⟩, ⟨.ldHlSp, (.reg .hl), (.reg .sp)⟩, ⟨.ldHlPc, (.reg .hl), .pc⟩,
   ⟨.ldBaSp, (.reg .ba), (.reg .sp)⟩, ⟨.ldBaPc, (.reg .ba), .pc⟩, ⟨.ldIxSp, (.reg .ix), (.reg .sp)⟩]

/-- Part 4 of `load16Rows`. -/
def load16Rows3 : List Load16Row :=
  [⟨.ldIySp, (.reg .iy), (.reg .sp)⟩]

/-- LD of 16 bits (R391 to R412). -/
def load16Rows (n : Byte) (w : Word) : List Load16Row :=
  load16Rows0 n w ++ load16Rows1 ++ load16Rows2 ++ load16Rows3

/-- EX BA,rp (R413). -/
def exchangeBaRows : List One16Row :=
  [⟨.exBaHl, .hl⟩, ⟨.exBaIx, .ix⟩, ⟨.exBaIy, .iy⟩, ⟨.exBaSp, .sp⟩]

/-- Part 1 of `arith16Rows`. -/
def arith16Rows0 (w : Word) : List Arith16Row :=
  [⟨.addBaImm w, .add, .ba, (.imm w)⟩, ⟨.addHlImm w, .add, .hl, (.imm w)⟩,
   ⟨.addIxImm w, .add, .ix, (.imm w)⟩, ⟨.addIyImm w, .add, .iy, (.imm w)⟩,
   ⟨.subBaImm w, .sub, .ba, (.imm w)⟩, ⟨.subHlImm w, .sub, .hl, (.imm w)⟩,
   ⟨.subIxImm w, .sub, .ix, (.imm w)⟩, ⟨.subIyImm w, .sub, .iy, (.imm w)⟩,
   ⟨.addBaBa, .add, .ba, (.reg .ba)⟩, ⟨.addBaHl, .add, .ba, (.reg .hl)⟩,
   ⟨.addBaIx, .add, .ba, (.reg .ix)⟩, ⟨.addBaIy, .add, .ba, (.reg .iy)⟩,
   ⟨.adcBaBa, .adc, .ba, (.reg .ba)⟩, ⟨.adcBaHl, .adc, .ba, (.reg .hl)⟩,
   ⟨.adcBaIx, .adc, .ba, (.reg .ix)⟩, ⟨.adcBaIy, .adc, .ba, (.reg .iy)⟩,
   ⟨.subBaBa, .sub, .ba, (.reg .ba)⟩, ⟨.subBaHl, .sub, .ba, (.reg .hl)⟩,
   ⟨.subBaIx, .sub, .ba, (.reg .ix)⟩, ⟨.subBaIy, .sub, .ba, (.reg .iy)⟩,
   ⟨.sbcBaBa, .sbc, .ba, (.reg .ba)⟩, ⟨.sbcBaHl, .sbc, .ba, (.reg .hl)⟩,
   ⟨.sbcBaIx, .sbc, .ba, (.reg .ix)⟩, ⟨.sbcBaIy, .sbc, .ba, (.reg .iy)⟩]

/-- Part 2 of `arith16Rows`. -/
def arith16Rows1 : List Arith16Row :=
  [⟨.addHlBa, .add, .hl, (.reg .ba)⟩, ⟨.addHlHl, .add, .hl, (.reg .hl)⟩,
   ⟨.addHlIx, .add, .hl, (.reg .ix)⟩, ⟨.addHlIy, .add, .hl, (.reg .iy)⟩,
   ⟨.adcHlBa, .adc, .hl, (.reg .ba)⟩, ⟨.adcHlHl, .adc, .hl, (.reg .hl)⟩,
   ⟨.adcHlIx, .adc, .hl, (.reg .ix)⟩, ⟨.adcHlIy, .adc, .hl, (.reg .iy)⟩,
   ⟨.subHlBa, .sub, .hl, (.reg .ba)⟩, ⟨.subHlHl, .sub, .hl, (.reg .hl)⟩,
   ⟨.subHlIx, .sub, .hl, (.reg .ix)⟩, ⟨.subHlIy, .sub, .hl, (.reg .iy)⟩,
   ⟨.sbcHlBa, .sbc, .hl, (.reg .ba)⟩, ⟨.sbcHlHl, .sbc, .hl, (.reg .hl)⟩,
   ⟨.sbcHlIx, .sbc, .hl, (.reg .ix)⟩, ⟨.sbcHlIy, .sbc, .hl, (.reg .iy)⟩,
   ⟨.addIxBa, .add, .ix, (.reg .ba)⟩, ⟨.addIxHl, .add, .ix, (.reg .hl)⟩,
   ⟨.addIyBa, .add, .iy, (.reg .ba)⟩, ⟨.addIyHl, .add, .iy, (.reg .hl)⟩,
   ⟨.addSpBa, .add, .sp, (.reg .ba)⟩, ⟨.addSpHl, .add, .sp, (.reg .hl)⟩,
   ⟨.subIxBa, .sub, .ix, (.reg .ba)⟩, ⟨.subIxHl, .sub, .ix, (.reg .hl)⟩]

/-- Part 3 of `arith16Rows`. -/
def arith16Rows2 (w : Word) : List Arith16Row :=
  [⟨.subIyBa, .sub, .iy, (.reg .ba)⟩, ⟨.subIyHl, .sub, .iy, (.reg .hl)⟩,
   ⟨.subSpBa, .sub, .sp, (.reg .ba)⟩, ⟨.subSpHl, .sub, .sp, (.reg .hl)⟩,
   ⟨.adcBaImm w, .adc, .ba, (.imm w)⟩, ⟨.adcHlImm w, .adc, .hl, (.imm w)⟩,
   ⟨.sbcBaImm w, .sbc, .ba, (.imm w)⟩, ⟨.sbcHlImm w, .sbc, .hl, (.imm w)⟩,
   ⟨.addSpImm w, .add, .sp, (.imm w)⟩, ⟨.subSpImm w, .sub, .sp, (.imm w)⟩]

/-- ADD, ADC, SUB, SBC of 16 bits (R441 to R469). -/
def arith16Rows (w : Word) : List Arith16Row :=
  arith16Rows0 w ++ arith16Rows1 ++ arith16Rows2 w

/-- CP of 16 bits (R470 to R477). -/
def compare16Rows (w : Word) : List Compare16Row :=
  [⟨.cpBaImm w, .ba, (.imm w)⟩, ⟨.cpHlImm w, .hl, (.imm w)⟩, ⟨.cpIxImm w, .ix, (.imm w)⟩,
   ⟨.cpIyImm w, .iy, (.imm w)⟩, ⟨.cpBaBa, .ba, (.reg .ba)⟩, ⟨.cpBaHl, .ba, (.reg .hl)⟩,
   ⟨.cpBaIx, .ba, (.reg .ix)⟩, ⟨.cpBaIy, .ba, (.reg .iy)⟩, ⟨.cpHlBa, .hl, (.reg .ba)⟩,
   ⟨.cpHlHl, .hl, (.reg .hl)⟩, ⟨.cpHlIx, .hl, (.reg .ix)⟩, ⟨.cpHlIy, .hl, (.reg .iy)⟩,
   ⟨.cpSpBa, .sp, (.reg .ba)⟩, ⟨.cpSpHl, .sp, (.reg .hl)⟩, ⟨.cpSpImm w, .sp, (.imm w)⟩]

/-- INC of 16 bits (R478, R479). -/
def inc16Rows : List One16Row :=
  [⟨.incSp, .sp⟩, ⟨.incBa, .ba⟩, ⟨.incHl, .hl⟩, ⟨.incIx, .ix⟩, ⟨.incIy, .iy⟩]

/-- DEC of 16 bits (R480, R481). -/
def dec16Rows : List One16Row :=
  [⟨.decSp, .sp⟩, ⟨.decBa, .ba⟩, ⟨.decHl, .hl⟩, ⟨.decIx, .ix⟩, ⟨.decIy, .iy⟩]

/-- Part 1 of `shiftRows`. -/
def shiftRows0 (n : Byte) : List ShiftRow :=
  [⟨.slaA, .sla, (.reg .a)⟩, ⟨.slaB, .sla, (.reg .b)⟩, ⟨.slaMBr n, .sla, (.mem (.br n))⟩,
   ⟨.slaMHl, .sla, (.mem .hl)⟩, ⟨.sllA, .sll, (.reg .a)⟩, ⟨.sllB, .sll, (.reg .b)⟩,
   ⟨.sllMBr n, .sll, (.mem (.br n))⟩, ⟨.sllMHl, .sll, (.mem .hl)⟩, ⟨.sraA, .sra, (.reg .a)⟩,
   ⟨.sraB, .sra, (.reg .b)⟩, ⟨.sraMBr n, .sra, (.mem (.br n))⟩, ⟨.sraMHl, .sra, (.mem .hl)⟩,
   ⟨.srlA, .srl, (.reg .a)⟩, ⟨.srlB, .srl, (.reg .b)⟩, ⟨.srlMBr n, .srl, (.mem (.br n))⟩,
   ⟨.srlMHl, .srl, (.mem .hl)⟩, ⟨.rlA, .rl, (.reg .a)⟩, ⟨.rlB, .rl, (.reg .b)⟩,
   ⟨.rlMBr n, .rl, (.mem (.br n))⟩, ⟨.rlMHl, .rl, (.mem .hl)⟩, ⟨.rlcA, .rlc, (.reg .a)⟩,
   ⟨.rlcB, .rlc, (.reg .b)⟩, ⟨.rlcMBr n, .rlc, (.mem (.br n))⟩, ⟨.rlcMHl, .rlc, (.mem .hl)⟩]

/-- Part 2 of `shiftRows`. -/
def shiftRows1 (n : Byte) : List ShiftRow :=
  [⟨.rrA, .rr, (.reg .a)⟩, ⟨.rrB, .rr, (.reg .b)⟩, ⟨.rrMBr n, .rr, (.mem (.br n))⟩,
   ⟨.rrMHl, .rr, (.mem .hl)⟩, ⟨.rrcA, .rrc, (.reg .a)⟩, ⟨.rrcB, .rrc, (.reg .b)⟩,
   ⟨.rrcMBr n, .rrc, (.mem (.br n))⟩, ⟨.rrcMHl, .rrc, (.mem .hl)⟩]

/-- Shifts and rotates (R504 to R527). -/
def shiftRows (n : Byte) : List ShiftRow :=
  shiftRows0 n ++ shiftRows1 n

/-- PUSH, its registers in the order they are pushed (R551 to R558). -/
def pushRows : List StackRow :=
  [⟨.pushBa, [.word .ba]⟩, ⟨.pushHl, [.word .hl]⟩, ⟨.pushIx, [.word .ix]⟩, ⟨.pushIy, [.word .iy]⟩,
   ⟨.pushBr, [.byte .br]⟩, ⟨.pushEp, [.byte .ep]⟩, ⟨.pushSc, [.byte .sc]⟩, ⟨.pushA, [.byte .a]⟩,
   ⟨.pushB, [.byte .b]⟩, ⟨.pushL, [.byte .l]⟩, ⟨.pushH, [.byte .h]⟩, ⟨.pushIp, [.byte .xp, .byte .yp]⟩,
   ⟨.pushAll, [.word .ba, .word .hl, .word .ix, .word .iy, .byte .br]⟩,
   ⟨.pushAle, [.word .ba, .word .hl, .word .ix, .word .iy, .byte .br, .byte .ep, .byte .xp, .byte .yp]⟩]

/-- POP, its registers in the order they are popped (R559 to R566). -/
def popRows : List StackRow :=
  [⟨.popBa, [.word .ba]⟩, ⟨.popHl, [.word .hl]⟩, ⟨.popIx, [.word .ix]⟩, ⟨.popIy, [.word .iy]⟩,
   ⟨.popBr, [.byte .br]⟩, ⟨.popEp, [.byte .ep]⟩, ⟨.popSc, [.byte .sc]⟩, ⟨.popA, [.byte .a]⟩,
   ⟨.popB, [.byte .b]⟩, ⟨.popL, [.byte .l]⟩, ⟨.popH, [.byte .h]⟩, ⟨.popIp, [.byte .yp, .byte .xp]⟩,
   ⟨.popAll, [.byte .br, .word .iy, .word .ix, .word .hl, .word .ba]⟩,
   ⟨.popAle, [.byte .yp, .byte .xp, .byte .ep, .byte .br, .word .iy, .word .ix, .word .hl, .word .ba]⟩]

/-- Each PUSH with the POP that undoes it. -/
def stackPairs : List (StackRow × Instr) :=
  [(⟨.pushBa, [.word .ba]⟩, .popBa), (⟨.pushHl, [.word .hl]⟩, .popHl), (⟨.pushIx, [.word .ix]⟩, .popIx),
   (⟨.pushIy, [.word .iy]⟩, .popIy), (⟨.pushBr, [.byte .br]⟩, .popBr), (⟨.pushEp, [.byte .ep]⟩, .popEp),
   (⟨.pushSc, [.byte .sc]⟩, .popSc), (⟨.pushA, [.byte .a]⟩, .popA), (⟨.pushB, [.byte .b]⟩, .popB),
   (⟨.pushL, [.byte .l]⟩, .popL), (⟨.pushH, [.byte .h]⟩, .popH),
   (⟨.pushIp, [.byte .xp, .byte .yp]⟩, .popIp),
   (⟨.pushAll, [.word .ba, .word .hl, .word .ix, .word .iy, .byte .br]⟩, .popAll),
   (⟨.pushAle, [.word .ba, .word .hl, .word .ix, .word .iy, .byte .br, .byte .ep, .byte .xp, .byte .yp]⟩, .popAle)]

/-- Part 1 of `jumpRows`. -/
def jumpRows0 (n : Byte) (w : Word) : List BranchRow :=
  [⟨.jrsC n, .c, n.signExtend 16⟩, ⟨.jrsNc n, .nc, n.signExtend 16⟩, ⟨.jrsZ n, .z, n.signExtend 16⟩,
   ⟨.jrsNz n, .nz, n.signExtend 16⟩, ⟨.jrlC w, .c, w⟩, ⟨.jrlNc w, .nc, w⟩, ⟨.jrlZ w, .z, w⟩,
   ⟨.jrlNz w, .nz, w⟩, ⟨.jrs n, .always, n.signExtend 16⟩, ⟨.jrl w, .always, w⟩,
   ⟨.jrsLt n, .lt, n.signExtend 16⟩, ⟨.jrsLe n, .le, n.signExtend 16⟩, ⟨.jrsGt n, .gt, n.signExtend 16⟩,
   ⟨.jrsGe n, .ge, n.signExtend 16⟩, ⟨.jrsV n, .v, n.signExtend 16⟩, ⟨.jrsNv n, .nv, n.signExtend 16⟩,
   ⟨.jrsP n, .p, n.signExtend 16⟩, ⟨.jrsM n, .m, n.signExtend 16⟩, ⟨.jrsF0 n, .f0, n.signExtend 16⟩,
   ⟨.jrsF1 n, .f1, n.signExtend 16⟩, ⟨.jrsF2 n, .f2, n.signExtend 16⟩, ⟨.jrsF3 n, .f3, n.signExtend 16⟩,
   ⟨.jrsNf0 n, .nf0, n.signExtend 16⟩, ⟨.jrsNf1 n, .nf1, n.signExtend 16⟩]

/-- Part 2 of `jumpRows`. -/
def jumpRows1 (n : Byte) : List BranchRow :=
  [⟨.jrsNf2 n, .nf2, n.signExtend 16⟩, ⟨.jrsNf3 n, .nf3, n.signExtend 16⟩]

/-- JRS and JRL (R598 to R602). -/
def jumpRows (n : Byte) (w : Word) : List BranchRow :=
  jumpRows0 n w ++ jumpRows1 n

/-- Part 1 of `callRows`. -/
def callRows0 (n : Byte) (w : Word) : List BranchRow :=
  [⟨.carsC n, .c, n.signExtend 16⟩, ⟨.carsNc n, .nc, n.signExtend 16⟩, ⟨.carsZ n, .z, n.signExtend 16⟩,
   ⟨.carsNz n, .nz, n.signExtend 16⟩, ⟨.carlC w, .c, w⟩, ⟨.carlNc w, .nc, w⟩, ⟨.carlZ w, .z, w⟩,
   ⟨.carlNz w, .nz, w⟩, ⟨.cars n, .always, n.signExtend 16⟩, ⟨.carl w, .always, w⟩,
   ⟨.carsLt n, .lt, n.signExtend 16⟩, ⟨.carsLe n, .le, n.signExtend 16⟩,
   ⟨.carsGt n, .gt, n.signExtend 16⟩, ⟨.carsGe n, .ge, n.signExtend 16⟩, ⟨.carsV n, .v, n.signExtend 16⟩,
   ⟨.carsNv n, .nv, n.signExtend 16⟩, ⟨.carsP n, .p, n.signExtend 16⟩, ⟨.carsM n, .m, n.signExtend 16⟩,
   ⟨.carsF0 n, .f0, n.signExtend 16⟩, ⟨.carsF1 n, .f1, n.signExtend 16⟩,
   ⟨.carsF2 n, .f2, n.signExtend 16⟩, ⟨.carsF3 n, .f3, n.signExtend 16⟩,
   ⟨.carsNf0 n, .nf0, n.signExtend 16⟩, ⟨.carsNf1 n, .nf1, n.signExtend 16⟩]

/-- Part 2 of `callRows`. -/
def callRows1 (n : Byte) : List BranchRow :=
  [⟨.carsNf2 n, .nf2, n.signExtend 16⟩, ⟨.carsNf3 n, .nf3, n.signExtend 16⟩]

/-- CARS and CARL (R606 to R610). -/
def callRows (n : Byte) (w : Word) : List BranchRow :=
  callRows0 n w ++ callRows1 n

/-- The instructions that write all of SC (R29). -/
def wholeScWriters (n : Byte) : List Instr :=
  [.andScImm n, .orScImm n, .xorScImm n, .ldScImm n, .ldScA, .popSc, .rete]

/-- The instructions whose named destination is NB or SC, the default of HOLDOFF_SET (R661). -/
def holdoffInstrs (n : Byte) : List Instr := [.ldNbA, .ldNbImm n] ++ wholeScWriters n

/-- The instructions that name a register of MODEL2 and MODEL3 only (U4). -/
def expansionInstrs (n : Byte) : List Instr :=
  [.ldANb, .ldAEp, .ldAXp, .ldAYp, .ldNbA, .ldEpA, .ldXpA, .ldYpA, .ldNbImm n, .ldEpImm n, .ldXpImm n, .ldYpImm n,
   .pushEp, .pushIp, .popEp, .popIp, .pushAle, .popAle]

/-- The second op-codes after CEH that R121 does not assign. -/
def unassignedCE : List Nat :=
  [0x64, 0x65, 0x66, 0x67, 0x6C, 0x6D, 0x6E, 0x6F, 0x70, 0x71, 0x72, 0x73, 0x74, 0x75, 0x76, 0x77,
   0x7C, 0x7D, 0x7E, 0x7F, 0xA9, 0xAA, 0xAB, 0xAC, 0xAD, 0xB3, 0xB7, 0xBB,
   0xDA, 0xDB, 0xDC, 0xDD, 0xDE, 0xDF]

/-- The second op-codes after CFH that R122 assigns, as ranges with both ends. -/
def assignedCF : List (Nat × Nat) :=
  [(0x00, 0x0F), (0x18, 0x1B), (0x20, 0x2F), (0x38, 0x3B), (0x40, 0x45), (0x48, 0x4D), (0x5C,
   0x5D), (0x60, 0x63), (0x68, 0x68), (0x6A, 0x6A), (0x6C, 0x6C), (0x6E, 0x6E), (0x70, 0x78),
   (0x7C, 0x7C), (0xB0, 0xB9), (0xBC, 0xBD), (0xC0, 0xC7), (0xD0, 0xF5), (0xF8, 0xFA), (0xFE, 0xFE)]

/-- How many bytes registers take on the stack. -/
def itemsSize : List Item → Nat
  | [] => 0
  | .byte _ :: is => 1 + itemsSize is
  | .word _ :: is => 2 + itemsSize is

/-- The bytes that registers give to the stack, the upper byte of a pair first (R550). -/
def itemsBytes (s : State) : List Item → List Byte
  | [] => []
  | .byte r :: is => s.get8 r :: itemsBytes s is
  | .word r :: is => hiByte (s.get16 r) :: loByte (s.get16 r) :: itemsBytes s is

/-- The state with registers loaded from the bytes of the stack, the lower byte of a pair first (R550). -/
def itemsLoaded : List Item → List Byte → State → State
  | .byte r :: is, v :: bs, s => itemsLoaded is bs (s.set8 r v)
  | .word r :: is, lo :: hi :: bs, s => itemsLoaded is bs (s.set16 r (pair hi lo))
  | [], _, s => s
  | .byte _ :: _, [], s => s
  | .word _ :: _, [], s => s
  | .word _ :: _, [_], s => s

/-- The fields that loading registers changes. -/
def itemsFields : List Item → List Field
  | [] => []
  | .byte r :: is => r.fields ++ itemsFields is
  | .word r :: is => r.fields ++ itemsFields is

/-- The flags that loading registers changes. -/
def itemsFlags : List Item → List Flag
  | [] => []
  | .byte r :: is => Loc8.flags (.reg r) ++ itemsFlags is
  | .word _ :: is => itemsFlags is

/-- The flags a shift or rotate writes (R500). -/
def shiftFlags : ShiftOp → List Flag
  | .sla => [.n, .v, .c, .z]
  | .sra => [.n, .v, .c, .z]
  | .sll => [.n, .c, .z]
  | .srl => [.n, .c, .z]
  | .rl => [.n, .c, .z]
  | .rlc => [.n, .c, .z]
  | .rr => [.n, .c, .z]
  | .rrc => [.n, .c, .z]

end Sys2Proof.Rules

open Sys2Proof Sys2Proof.Machine Sys2Proof.Rules

/-- With D = 0 and U = 0, for each of the 64 forms of ADD, ADC, SUB, SBC and the 4 of NEG, with operands a and b that can be read (the source first) in a step that SR does not cut, exec answers the next state that is the state behind the reads in which the destination holds Add8 or Sub8 of the operands (ADC and SBC with C coming in, NEG from 0), N, V, C, Z are those of the rules, and nothing else has changed. Which of two memory operands is read first is decision D4 (R156), the choice of log 17. -/
def Obligations.BinaryArith8 : Prop :=
  ∀ (n : Byte) (w : Word), ∀ row ∈ arith8Rows n w, ∀ (s s1 s2 : State) (a b : Byte),
    s.flag .d = false → s.flag .u = false →
    s.uncut → row.right.read s = .ok (b, s1) → row.left.read s1 = .ok (a, s2) →
    exec row.instr s =
      .next (stored8 row.dst (oneOf (add8 a b (carryIn s row.op)) (sub8 a b (carryIn s row.op)) row.op) s2)

/-- With D = 1 and U = 0 and BCD operands (the source read first), the 68 forms of ADD, ADC, SUB, SBC and NEG answer, in a step that SR does not cut, the state behind the reads in which the destination holds the decimal sum or difference modulo 100, C is the decimal carry or borrow, N and V are 0 and Z says whether the result is 0. Nothing else changes. Operands that are not BCD are the statement NonBcdArith8. Which of two memory operands is read first is decision D4 (R156), the choice of log 17. -/
def Obligations.DecimalArith8 : Prop :=
  ∀ (n : Byte) (w : Word), ∀ row ∈ arith8Rows n w, ∀ (s s1 s2 : State) (a b : Byte),
    s.flag .d = true → s.flag .u = false → decimalByte a → decimalByte b →
    s.uncut → row.right.read s = .ok (b, s1) → row.left.read s1 = .ok (a, s2) →
    exec row.instr s =
      .next (stored8 row.dst
        (oneOf (decimalAdd a b (carryIn s row.op)) (decimalSub a b (carryIn s row.op)) row.op) s2)

/-- With D = 0 and U = 1 the 68 forms of ADD, ADC, SUB, SBC and NEG, with operands that can be read (the source first), answer, in a step that SR does not cut, the state behind the reads in which the destination holds the four-bit sum or difference with the upper four bits 0, and N, V, C, Z are those of the four-bit operation. Nothing else changes. Which of two memory operands is read first is decision D4 (R156), the choice of log 17. -/
def Obligations.UnpackedArith8 : Prop :=
  ∀ (n : Byte) (w : Word), ∀ row ∈ arith8Rows n w, ∀ (s s1 s2 : State) (a b : Byte),
    s.flag .d = false → s.flag .u = true →
    s.uncut → row.right.read s = .ok (b, s1) → row.left.read s1 = .ok (a, s2) →
    exec row.instr s =
      .next (stored8 row.dst
        (oneOf (unpackAdd a b (carryIn s row.op)) (unpackSub a b (carryIn s row.op)) row.op) s2)

/-- With D = 1 and U = 1 and operands whose lower digits are at most 9 (the source read first), the 68 forms of ADD, ADC, SUB, SBC and NEG answer, in a step that SR does not cut, the state behind the reads in which the destination holds the one-digit decimal sum or difference, C is the carry or borrow of the digit, N and V are 0. The spec reads this combination from examples only (decision D14): it is the model's choice of log 10. Which of two memory operands is read first is decision D4 (R156), the choice of log 17. -/
def Obligations.UnpackedDecimalArith8 : Prop :=
  ∀ (n : Byte) (w : Word), ∀ row ∈ arith8Rows n w, ∀ (s s1 s2 : State) (a b : Byte),
    s.flag .d = true → s.flag .u = true → a.toNat % 16 ≤ 9 → b.toNat % 16 ≤ 9 →
    s.uncut → row.right.read s = .ok (b, s1) → row.left.read s1 = .ok (a, s2) →
    exec row.instr s =
      .next (stored8 row.dst
        (oneOf (unpackDecimalAdd a b (carryIn s row.op)) (unpackDecimalSub a b (carryIn s row.op)) row.op) s2)

/-- With D = 1 and an operand that is not BCD (with U = 1: a lower digit above 9; the source is read first), the 68 forms of ADD, ADC, SUB, SBC and NEG still answer, in a step that SR does not cut, the state behind the reads in which some byte is stored in the destination, some C and some Z are written, N and V are 0, and nothing else changes; in the unpack operation the upper four bits of the byte are 0. The spec leaves result, C and Z open (U5); the model takes them as free values (log 9). Which of two memory operands is read first is decision D4 (R156), the choice of log 17. -/
def Obligations.NonBcdArith8 : Prop :=
  ∀ (n : Byte) (w : Word), ∀ row ∈ arith8Rows n w, ∀ (s s1 s2 : State) (a b : Byte),
    s.flag .d = true →
    (s.flag .u = false ∧ ¬(decimalByte a ∧ decimalByte b) ∨
      s.flag .u = true ∧ ¬(a.toNat % 16 ≤ 9 ∧ b.toNat % 16 ≤ 9)) →
    s.uncut → row.right.read s = .ok (b, s1) → row.left.read s1 = .ok (a, s2) →
    ∃ (v : Byte) (c z : Bool), (s.flag .u = true → v.toNat < 16) ∧
      exec row.instr s = .next ((row.dst.put v s2).withNVCZ false false c z)

/-- For each of the 21 forms of the 8-bit CP with operands a and b that can be read (the source first), exec answers the state behind the reads with only N, V, C and Z changed, which are those of Sub8(a, b, 0) whatever D and U are. Which of two memory operands is read first is decision D4, the choice of log 17. -/
def Obligations.Compare8 : Prop :=
  ∀ (n m : Byte) (w : Word), ∀ row ∈ compare8Rows n m w, ∀ (s s1 s2 : State) (a b : Byte),
    row.src.read s = .ok (b, s1) → (held row.dst).read s1 = .ok (a, s2) →
    exec row.instr s = .next (s2.withNVCZ (sub8 a b 0).n (sub8 a b 0).v (sub8 a b 0).c (sub8 a b 0).z)

/-- For each of the 7 forms of the 8-bit INC and the 7 of DEC, an operand x that can be read and a step that SR does not cut, exec answers the state behind the read in which the operand is x + 1 or x - 1 modulo 256, Z says whether that is 0, and nothing else has changed. -/
def Obligations.IncDec8 : Prop :=
  (∀ (n : Byte), ∀ row ∈ inc8Rows n, ∀ (s s1 : State) (x : Byte),
    s.uncut → (held row.loc).read s = .ok (x, s1) →
    exec row.instr s = .next
      ((row.loc.put (BitVec.ofNat 8 ((x.toNat + 1) % 256)) s1).setFlag .z (decide (x.toNat = 255)))) ∧
  (∀ (n : Byte), ∀ row ∈ dec8Rows n, ∀ (s s1 : State) (x : Byte),
    s.uncut → (held row.loc).read s = .ok (x, s1) →
    exec row.instr s = .next
      ((row.loc.put (BitVec.ofNat 8 ((x.toNat + 255) % 256)) s1).setFlag .z (decide (x.toNat = 1))))

/-- MLT is encoded CEH, D8H and counts 12 bus cycles. On MODEL1 and MODEL3 it answers the next state in which HL is L times A (unsigned), N is bit 15 of the product, V and C are 0, Z says whether the product is 0, whatever D and U are, and nothing else has changed. -/
def Obligations.Multiply : Prop :=
  encode .mlt = [0xCE#8, 0xD8#8] ∧ busCycles .mlt = .fixed 12 ∧
  ∀ (s : State), (s.cfg.model = .model1 ∨ s.cfg.model = .model3) →
    exec .mlt s = .next ((s.set16 .hl (BitVec.ofNat 16 (s.l.toNat * s.a.toNat))).withNVCZ
      (decide (32768 ≤ s.l.toNat * s.a.toNat)) false false (decide (s.l.toNat * s.a.toNat = 0)))

/-- On MODEL1 and MODEL3 with A not 0: if HL div A is at most 255, DIV answers the next state with the quotient in L, the remainder in H, N bit 7 of the quotient, V = C = 0, Z whether the quotient is 0; if it is above 255, the next state differs only in N = V = 1 and C = Z = 0 (decision D15, the model's choice of log 12). -/
def Obligations.Divide : Prop :=
  ∀ (s : State), (s.cfg.model = .model1 ∨ s.cfg.model = .model3) → s.a ≠ 0#8 →
    (s.hl.toNat / s.a.toNat ≤ 255 →
      exec .div s = .next (((s.set8 .l (BitVec.ofNat 8 (s.hl.toNat / s.a.toNat))).set8 .h
          (BitVec.ofNat 8 (s.hl.toNat % s.a.toNat))).withNVCZ
        (decide (128 ≤ s.hl.toNat / s.a.toNat)) false false (decide (s.hl.toNat / s.a.toNat = 0)))) ∧
    (255 < s.hl.toNat / s.a.toNat → exec .div s = .next (s.withNVCZ true true false false))

/-- On MODEL1 and MODEL3 with A = 0, in a step that SR does not cut and with a vector v at 000002H that can be read behind the frame, DIV answers the next state in which NVCZ = 1100, HL is unchanged, the frame (CB in the maximum mode, PC, the SC with NVCZ = 1100) is on the stack, I1 and I0 are unchanged, PC is v and CB is NB on MODEL3, and the status is run. The bus is locked to the bus master behind the first break-point (behind another entry, IACK being LOW, there too: R656) and IACK is LOW (R671, R719, decision D6, the choice of log 19). The flags, the return address, the unchanged mask and CB are decisions of the spec: log 13 and log 15; that CB takes NB in the minimum mode too is decision D10, the choice of log 34. That SP wraps modulo 65536 inside these bytes too, in the page SPP, is decision D28, the choice of log 16. That the lower byte of the vector is read first is decision D4 of R66, the choice of log 17. -/
def Obligations.DivideByZero : Prop :=
  ∀ (s t : State) (v : Word), (s.cfg.model = .model1 ∨ s.cfg.model = .model3) → s.a = 0#8 →
    s.uncut →
    vectorIs (pushed (exceptionFrame (s.withNVCZ true true false false))
      (acknowledged (locked ((s.withNVCZ true true false false).setZdivPending false)))) 2#8 v t →
    exec .div s = .next ((branched v t).setStatus .run)

/-- For each of the 60 forms of AND, OR and XOR whose destination is not SC, with operands a and b that can be read (the source first) in a step that SR does not cut, exec answers the state behind the reads in which the destination is a op b bit by bit, N is bit 7 of the result, Z says whether it is 0, and nothing else has changed (V and C among it). Which of two memory operands is read first is decision D4, the choice of log 17. -/
def Obligations.Logic8 : Prop :=
  ∀ (n m : Byte) (w : Word), ∀ row ∈ logic8Rows n m w, ∀ (s s1 s2 : State) (a b : Byte),
    s.uncut → row.right.read s = .ok (b, s1) → row.left.read s1 = .ok (a, s2) →
    exec row.instr s = .next (storedNZ row.dst (bitwise a b row.op) s2)

/-- AND SC,#nn, OR SC,#nn and XOR SC,#nn answer the next state in which SC is the bitwise result of SC and nn, all eight flags among it, and nothing else has changed. -/
def Obligations.LogicSc : Prop :=
  ∀ (s : State) (nn : Byte),
    exec (.andScImm nn) s = .next (s.setSc (s.sc &&& nn)) ∧
    exec (.orScImm nn) s = .next (s.setSc (s.sc ||| nn)) ∧
    exec (.xorScImm nn) s = .next (s.setSc (s.sc ^^^ nn))

/-- Each of the 5 forms of BIT, with operands that can be read (the source first), answers the state behind the reads with only these changed: N (bit 7 of the AND) and Z (whether the AND is 0). Each of the 4 forms of CPL, with an operand x that can be read in a step that SR does not cut, answers the state behind the read in which the operand is 255 - x, N and Z are from that, and nothing else has changed. -/
def Obligations.BitTestAndComplement : Prop :=
  (∀ (n m : Byte), ∀ row ∈ bitTestRows n m, ∀ (s s1 s2 : State) (a b : Byte),
    row.src.read s = .ok (b, s1) → (held row.dst).read s1 = .ok (a, s2) →
    exec row.instr s = .next
      (s2.withNZ (decide (128 ≤ (a &&& b).toNat)) (decide ((a &&& b).toNat = 0)))) ∧
  (∀ (n : Byte), ∀ row ∈ complementRows n, ∀ (s s1 : State) (x : Byte),
    s.uncut → (held row.loc).read s = .ok (x, s1) →
    exec row.instr s = .next (storedNZ row.loc (BitVec.ofNat 8 (255 - x.toNat)) s1))

/-- For each of the 141 forms of the 8-bit LD, on a model that has the registers it names, with a source v that can be read in a step that SR does not cut, exec answers the state behind the read in which the destination is v (SC takes all eight flags) and nothing else has changed. -/
def Obligations.Load8 : Prop :=
  ∀ (n m : Byte) (w : Word), ∀ row ∈ load8Rows n m w, ∀ (s s1 : State) (v : Byte),
    WellFormed s.cfg.model row.instr → s.uncut → row.src.read s = .ok (v, s1) →
    exec row.instr s = .next (row.dst.put v s1)

/-- EX A,B exchanges A and B. EX A,[HL], when the byte at [HL] can be read and SR does not cut the step, loads A with it and writes the old A in a second bus cycle. EX BA,rp exchanges BA with HL, IX, IY or SP. SWAP A and SWAP [HL] exchange the upper and lower four bits of their operand. Each answers the next state in which nothing else has changed. -/
def Obligations.ExchangesAndSwap : Prop :=
  (∀ (s : State), exec .exAB s = .next ((s.set8 .a s.b).set8 .b s.a)) ∧
  (∀ (s s1 : State) (m : Byte), s.uncut → readByte s (MemOp.hl.ea s) = .ok (m, s1) →
    exec .exAMHl s = .next ((s1.put (MemOp.hl.ea s) s.a).set8 .a m)) ∧
  (∀ row ∈ exchangeBaRows, ∀ (s : State),
    exec row.instr s = .next ((s.set16 .ba (s.get16 row.reg)).set16 row.reg s.ba)) ∧
  (∀ row ∈ swapRows, ∀ (s s1 : State) (x : Byte),
    s.uncut → (held row.loc).read s = .ok (x, s1) →
    exec row.instr s = .next
      (row.loc.put (BitVec.ofNat 8 (16 * (x.toNat % 16) + x.toNat / 16)) s1))

/-- For each of the 73 forms of the 16-bit LD, with a source v that can be read in a step that SR does not cut, exec answers the state behind the read in which the destination is v (in memory its low byte at the address, then its high byte at the next address of the page) and nothing else has changed. That a word at in-page FFFFH continues at 0000H of the same page is decision D3 of R66, the choice of log 16. LD BA,PC and LD HL,PC give the PC of a state while it executes, the address of the next instruction (log 32). That the lower byte of a word is accessed first is decision D4 of R66, the choice of log 17. -/
def Obligations.Load16 : Prop :=
  ∀ (n : Byte) (w : Word), ∀ row ∈ load16Rows n w, ∀ (s s1 : State) (v : Word),
    s.uncut → row.src.read s = .ok (v, s1) →
    exec row.instr s = .next (row.dst.put v s1)

/-- For each of the 58 forms of the 16-bit ADD, ADC, SUB, SBC with a source b that can be read, exec answers the state behind the read in which the register is Add16 or Sub16 of its value and b (ADC and SBC with C coming in), N, V, C, Z are those of R440, and nothing else has changed, whatever D and U are. For each of the 15 forms of the 16-bit CP only these change: the N, V, C, Z of Sub16. -/
def Obligations.Arith16 : Prop :=
  (∀ (w : Word), ∀ row ∈ arith16Rows w, ∀ (s s1 : State) (b : Word), row.src.read s = .ok (b, s1) →
    exec row.instr s = .next (stored16 row.dst
      (oneOf (add16 (s.get16 row.dst) b (carryIn s row.op)) (sub16 (s.get16 row.dst) b (carryIn s row.op))
        row.op) s1)) ∧
  (∀ (w : Word), ∀ row ∈ compare16Rows w, ∀ (s s1 : State) (b : Word), row.right.read s = .ok (b, s1) →
    exec row.instr s = .next (s1.withNVCZ (sub16 (s.get16 row.left) b 0).n (sub16 (s.get16 row.left) b 0).v
      (sub16 (s.get16 row.left) b 0).c (sub16 (s.get16 row.left) b 0).z))

/-- INC and DEC of BA, HL, IX, IY and SP answer the next state in which the register is its value plus or minus 1 modulo 65536, Z says whether that is 0, and nothing else has changed. -/
def Obligations.IncDec16 : Prop :=
  (∀ row ∈ inc16Rows, ∀ (s : State),
    exec row.instr s = .next ((s.set16 row.reg (BitVec.ofNat 16 ((s.get16 row.reg).toNat + 1))).setFlag .z
      (decide ((s.get16 row.reg).toNat = 65535)))) ∧
  (∀ row ∈ dec16Rows, ∀ (s : State),
    exec row.instr s = .next ((s.set16 row.reg (BitVec.ofNat 16 ((s.get16 row.reg).toNat + 65535))).setFlag .z
      (decide ((s.get16 row.reg).toNat = 1))))

/-- For each of the 8 shifts and rotates on A, B, [BR:ll] and [HL], with an operand x that can be read in a step that SR does not cut, exec answers the state behind the read in which the operand is moved by one bit as the rules say, C is the bit that left, N and Z are from the result, V is written by SLA (whether doubling leaves -128 to 127: decision D27, log 11) and reset by SRA, and nothing else has changed. -/
def Obligations.Shifts : Prop :=
  ∀ (n : Byte), ∀ row ∈ shiftRows n, ∀ (s s1 : State) (x : Byte),
    s.uncut → (held row.loc).read s = .ok (x, s1) →
    exec row.instr s = .next (stored8 row.loc (shift8 s x row.op) s1)

/-- PACK is DEH, 2 cycles: A takes the lower digits of B and A. UPCK is DFH, 2 cycles: B takes the upper and A the lower digit of A, upper four bits 0. SEP is CEH, A8H, 3 cycles: B is FFH if bit 7 of A is 1, else 00H. Each answers the next state in which nothing else has changed. -/
def Obligations.DigitOperations : Prop :=
  encode .pack = [0xDE#8] ∧ busCycles .pack = .fixed 2 ∧
  encode .upck = [0xDF#8] ∧ busCycles .upck = .fixed 2 ∧
  encode .sep = [0xCE#8, 0xA8#8] ∧ busCycles .sep = .fixed 3 ∧
  ∀ (s : State),
    exec .pack s = .next (s.set8 .a (BitVec.ofNat 8 (16 * (s.b.toNat % 16) + s.a.toNat % 16))) ∧
    exec .upck s = .next ((s.set8 .b (BitVec.ofNat 8 (s.a.toNat / 16))).set8 .a
      (BitVec.ofNat 8 (s.a.toNat % 16))) ∧
    exec .sep s = .next (s.set8 .b (if 128 ≤ s.a.toNat then 0xFF#8 else 0x00#8))

/-- For each of the 14 forms of PUSH, on a model that has the registers it names, in a step that SR does not cut, exec answers the next state in which the bytes of the registers (in the order of the rule, the upper byte of a pair first) stand below the old SP in the stack page, SP is lowered by their number modulo 65536, and nothing else has changed. That SP wraps modulo 65536 inside these bytes too, in the page SPP, is decision D28, the choice of log 16. -/
def Obligations.PushStoresRegisters : Prop :=
  ∀ row ∈ pushRows, ∀ (s : State), WellFormed s.cfg.model row.instr → s.uncut →
    exec row.instr s = .next (pushed (itemsBytes s row.items) s)

/-- For each of the 14 forms of POP, on a model that has the registers it names, where the bytes from SP up can be read one after the other, exec answers the state behind the reads in which the registers (in the order of the rule, the lower byte of a pair first) hold those bytes, SP is raised by their number modulo 65536, and nothing else has changed; POP SC writes all eight flags, the others none. That SP wraps modulo 65536 inside these bytes too, in the page SPP, is decision D28, the choice of log 16. -/
def Obligations.PopLoadsRegisters : Prop :=
  ∀ row ∈ popRows, ∀ (s t : State) (bytes : List Byte), WellFormed s.cfg.model row.instr →
    bytes.length = itemsSize row.items → stackHolds s bytes t →
    exec row.instr s = .next (itemsLoaded row.items bytes t) ∧
      t.sp = s.sp + BitVec.ofNat 16 bytes.length

/-- Each of the 26 forms of JRS and JRL answers the next state: if its condition holds, PC is pc_next - 1 + offset modulo 65536 and on MODEL2/3 CB is NB; if not, PC stays pc_next and on MODEL2/3 NB is CB. Nothing else changes. That CB takes NB where it is taken, and NB takes CB where it is not, in the minimum mode of MODEL2/3 too is decision D10, the choice of log 34. That a condition on F0 to F3 takes the level present in this step is decision D12 of R593, the choice of log 21; that the target wraps modulo 65536 and no carry reaches CB is decision D29 of R594, the choice of log 16. -/
def Obligations.Jumps : Prop :=
  ∀ (n : Byte) (w : Word), ∀ row ∈ jumpRows n w, ∀ (s : State),
    exec row.instr s =
      .next (if conditionHolds s row.cond then branched (relative s row.offset) s else fellThrough s)

/-- DJR NZ,rr is F5H, rr and counts 4 bus cycles. It answers the next state in which B is B - 1 modulo 256, Z says whether that is 0, and: if it is not 0, PC is pc_next - 1 + rr and on MODEL2/3 CB is NB; if it is 0, PC stays pc_next and on MODEL2/3 NB is CB. Nothing else changes. That CB takes NB where it is taken, and NB takes CB where it is not, in the minimum mode of MODEL2/3 too is decision D10, the choice of log 34. That the target wraps modulo 65536 and no carry reaches CB is decision D29 of R594, the choice of log 16. -/
def Obligations.DecrementJump : Prop :=
  (∀ (rr : Byte), encode (.djrNz rr) = [0xF5#8, rr] ∧ busCycles (.djrNz rr) = .fixed 4) ∧
  ∀ (s : State) (rr : Byte),
    (s.b ≠ 1#8 → exec (.djrNz rr) s = .next (branched (relative s (rr.signExtend 16))
      ((s.set8 .b (BitVec.ofNat 8 (s.b.toNat + 255))).setFlag .z false))) ∧
    (s.b = 1#8 → exec (.djrNz rr) s = .next (fellThrough ((s.set8 .b 0#8).setFlag .z true)))

/-- JP HL answers the next state with PC = HL and on MODEL2/3 CB = NB. JP [kk], where the bytes at 0000kkH and the next address can be read one after the other, answers the state behind the reads with PC the word they hold, low byte first, and on MODEL2/3 CB = NB. Nothing else changes. That CB takes NB in the minimum mode of MODEL2/3 too is decision D10, the choice of log 34. That kk = FFH continues at 000100H is decision D3 (log 16). That the lower byte of the vector is read first is decision D4 of R66, the choice of log 17. -/
def Obligations.JumpIndirect : Prop :=
  (∀ (s : State), exec .jpHl s = .next (branched (BitVec.ofNat 16 (256 * s.h.toNat + s.l.toNat)) s)) ∧
  (∀ (s t : State) (kk : Byte) (v : Word), vectorIs s kk v t → exec (.jpVec kk) s = .next (branched v t))

/-- Each of the 26 forms of CARS and CARL: if its condition holds and SR does not cut the step, it answers the next state in which the frame (CB in the maximum mode, then the upper and the lower byte of pc_next) is pushed, PC is pc_next - 1 + offset and on MODEL2/3 CB is NB; if the condition does not hold, PC stays pc_next, on MODEL2/3 NB is CB, and the stack is not touched. Nothing else changes. That CB takes NB where it is taken, and NB takes CB where it is not, in the minimum mode of MODEL2/3 too is decision D10, the choice of log 34. That a condition on F0 to F3 takes the level present in this step is decision D12 of R593, the choice of log 21; that the target wraps modulo 65536 and no carry reaches CB is decision D29 of R594, the choice of log 16. That SP wraps modulo 65536 inside these bytes too, in the page SPP, is decision D28, the choice of log 16. -/
def Obligations.Calls : Prop :=
  ∀ (n : Byte) (w : Word), ∀ row ∈ callRows n w, ∀ (s : State),
    (conditionHolds s row.cond = true → s.uncut →
      exec row.instr s = .next (branched (relative s row.offset) (pushed (callFrame s) s))) ∧
    (conditionHolds s row.cond = false → exec row.instr s = .next (fellThrough s))

/-- CALL [hhll], in a step that SR does not cut and where the two bytes of the pointer can be read after the pushes (decision D4, log 17), answers the next state in which the frame is pushed, PC is the pointer (low byte at hhll of page EP, high byte at hhll + 1) and on MODEL2/3 CB is NB. Nothing else changes. That CB takes NB in the minimum mode of MODEL2/3 too is decision D10, the choice of log 34. Where the low byte of the pointer cannot be read, with nothing coming from the outside, it stops in the state in which the frame is pushed (R735, log 35). In the pointer, as in every word, the low byte is read first (D4, log 17), and a pointer at FFFFH continues at 0000H of the page (D3, log 16). That SP wraps modulo 65536 inside these bytes too, in the page SPP, is decision D28, the choice of log 16. -/
def Obligations.CallIndirect : Prop :=
  (∀ (s u t : State) (hhll : Word) (lo hi : Byte), s.uncut →
    readByte (pushed (callFrame s) s) (dataAddr s s.ep hhll) = .ok (lo, u) →
    readByte u (dataAddr s s.ep (hhll + 1#16)) = .ok (hi, t) →
    exec (.callMAbs hhll) s = .next (branched (pair hi lo) t)) ∧
  (∀ (s : State) (hhll : Word) (f : Fault), s.bus = [] →
    readByte (pushed (callFrame s) s) (dataAddr s s.ep hhll) = .error (.fault f) →
    exec (.callMAbs hhll) s = .fault f ∧ f.state = pushed (callFrame s) s)

/-- Where the bytes of the frame can be read from SP up: outside the maximum mode RET answers the state behind the reads with PC the popped word and SP raised by 2, CB and NB unchanged; in the maximum mode CB and NB are the third byte and SP is raised by 3. RETS answers the same with 2 added to PC. Nothing else changes. That SP wraps modulo 65536 inside these bytes too, in the page SPP, is decision D28, the choice of log 16. -/
def Obligations.Returns : Prop :=
  ∀ (s t : State) (lo hi bank : Byte),
    (s.cfg.maxMode = false → stackHolds s [lo, hi] t →
      exec .ret s = .next (t.setPc (pair hi lo)) ∧
      exec .rets s = .next (t.setPc (pair hi lo + 2#16)) ∧ t.sp = s.sp + 2#16) ∧
    (s.cfg.maxMode = true → stackHolds s [lo, hi, bank] t →
      exec .ret s = .next (((t.setPc (pair hi lo)).setCb bank).setNb bank) ∧
      exec .rets s = .next (((t.setPc (pair hi lo + 2#16)).setCb bank).setNb bank) ∧ t.sp = s.sp + 3#16)

/-- Where the bytes of the frame can be read from SP up: RETE answers the state behind the reads in which SC is the first byte (all eight flags), PC the next two, lower byte first, and in the maximum mode CB and NB the fourth; SP is raised by 3 or 4. Nothing else changes. That SP wraps modulo 65536 inside these bytes too, in the page SPP, is decision D28, the choice of log 16. -/
def Obligations.ReturnFromException : Prop :=
  ∀ (s t : State) (sc lo hi bank : Byte),
    (s.cfg.maxMode = false → stackHolds s [sc, lo, hi] t →
      exec .rete s = .next ((t.setSc sc).setPc (pair hi lo)) ∧ t.sp = s.sp + 3#16) ∧
    (s.cfg.maxMode = true → stackHolds s [sc, lo, hi, bank] t →
      exec .rete s = .next ((((t.setSc sc).setPc (pair hi lo)).setCb bank).setNb bank) ∧
        t.sp = s.sp + 4#16)

/-- INT [kk], in a step that SR does not cut and where the vector v at 0000kkH can be read after the pushes, answers the next state in which the frame (CB in the maximum mode, pc_next, SC) is pushed, PC is v, on MODEL2/3 CB is NB and the status is run. No flag changes, I1 and I0 among them (decision D17, log 14). Where the low byte of the vector cannot be read, with nothing coming from the outside, it stops in the state in which the frame is pushed, in the exception processing status (R664, R702, R735, log 35). That CB takes NB in the minimum mode of MODEL2/3 too is decision D10, the choice of log 34. That the frame is pushed before the vector is read, and its lower byte first, is decision D4, the choice of log 14 and log 17; that the vector at kk = FFH continues at 000100H is decision D3 (log 16). That SP wraps modulo 65536 inside these bytes too, in the page SPP, is decision D28, the choice of log 16. -/
def Obligations.SoftInterrupt : Prop :=
  (∀ (s t : State) (kk : Byte) (v : Word), s.uncut →
    vectorIs (pushed (exceptionFrame s) (s.setStatus .exception)) kk v t →
    exec (.intVec kk) s = .next ((branched v t).setStatus .run)) ∧
  (∀ (s : State) (kk : Byte) (f : Fault), s.bus = [] →
    readByte (pushed (exceptionFrame s) (s.setStatus .exception)) (vectorAddr kk 0) = .error (.fault f) →
    exec (.intVec kk) s = .fault f ∧ f.state = pushed (exceptionFrame s) (s.setStatus .exception))

/-- NOP (FFH) answers the state it is given, in which PC is already past it; HALT (CEH, AEH) and SLP (CEH, AFH) answer the state in which only the processing status has changed, to halt and to sleep. -/
def Obligations.SystemControl : Prop :=
  encode .nop = [0xFF#8] ∧ encode .halt = [0xCE#8, 0xAE#8] ∧ encode .slp = [0xCE#8, 0xAF#8] ∧
  ∀ (s : State), exec .nop s = .next s ∧ exec .halt s = .next (s.setStatus .halt) ∧
    exec .slp s = .next (s.setStatus .sleep)

/-- When one of the 68 forms of the 8-bit ADD, ADC, SUB, SBC and NEG answers a next state, every field but the destination register, every flag but N, V, C, Z and every byte of memory but the destination byte (at the address the operand's EA gives in the state before) is unchanged, whatever D and U are. Where the form takes bus cycles, in a step that SR does not cut, the bus and the trace move on and the bus master may change the bytes it writes in the break-points. -/
def Obligations.FrameArith8 : Prop :=
  ∀ (n : Byte) (w : Word), ∀ row ∈ arith8Rows n w, ∀ (s t : State), s.uncut →
    exec row.instr s = .next t →
    Kept (row.left.onBus || row.right.onBus || row.dst.onBus) s t row.dst.fields [.n, .v, .c, .z] (row.dst.stored s)

/-- When a form of AND, OR, XOR (destination not SC), CPL, the 8-bit INC and DEC, or a shift or rotate answers a next state, every field but the operand's register, every byte of memory but the operand's, and every flag but those of R37 (N and Z; Z alone for INC and DEC; N, C, Z for shifts and rotates, and V too for SLA and SRA) is unchanged. Where the form takes bus cycles, in a step that SR does not cut, the bus and the trace move on and the bus master may change the bytes it writes in the break-points. -/
def Obligations.FrameLogicAndShift8 : Prop :=
  (∀ (n m : Byte) (w : Word), ∀ row ∈ logic8Rows n m w, ∀ (s t : State), s.uncut →
    exec row.instr s = .next t →
    Kept (row.left.onBus || row.right.onBus || row.dst.onBus) s t row.dst.fields [.n, .z] (row.dst.stored s)) ∧
  (∀ (n : Byte), ∀ row ∈ complementRows n, ∀ (s t : State), s.uncut →
    exec row.instr s = .next t → Kept row.loc.onBus s t row.loc.fields [.n, .z] (row.loc.stored s)) ∧
  (∀ (n : Byte), ∀ row ∈ inc8Rows n ++ dec8Rows n, ∀ (s t : State), s.uncut →
    exec row.instr s = .next t → Kept row.loc.onBus s t row.loc.fields [.z] (row.loc.stored s)) ∧
  (∀ (n : Byte), ∀ row ∈ shiftRows n, ∀ (s t : State), s.uncut →
    exec row.instr s = .next t → Kept row.loc.onBus s t row.loc.fields (shiftFlags row.op) (row.loc.stored s))

/-- When one of the 141 forms of the 8-bit LD or the 2 of SWAP answers a next state, every field but the destination register, every flag (all of them may change where the destination is SC) and every byte of memory but the destination byte is unchanged. Where the form takes bus cycles, in a step that SR does not cut, the bus and the trace move on and the bus master may change the bytes it writes in the break-points. -/
def Obligations.FrameLoad8 : Prop :=
  (∀ (n m : Byte) (w : Word), ∀ row ∈ load8Rows n m w, ∀ (s t : State), s.uncut →
    exec row.instr s = .next t →
    Kept (row.dst.onBus || row.src.onBus) s t row.dst.fields row.dst.flags (row.dst.stored s)) ∧
  (∀ row ∈ swapRows, ∀ (s t : State), s.uncut →
    exec row.instr s = .next t → Kept row.loc.onBus s t row.loc.fields [] (row.loc.stored s))

/-- When a form of the 8-bit or the 16-bit CP answers a next state, nothing but N, V, C, Z has changed; when a form of BIT does, nothing but N and Z. Every register and every byte of memory is unchanged. Where the form takes bus cycles, in a step that SR does not cut, the bus and the trace move on and the bus master may change the bytes it writes in the break-points. -/
def Obligations.FrameCompare : Prop :=
  (∀ (n m : Byte) (w : Word), ∀ row ∈ compare8Rows n m w, ∀ (s t : State), s.uncut →
    exec row.instr s = .next t → Kept (row.dst.onBus || row.src.onBus) s t [] [.n, .v, .c, .z] []) ∧
  (∀ (w : Word), ∀ row ∈ compare16Rows w, ∀ (s t : State), s.uncut →
    exec row.instr s = .next t → Kept row.right.onBus s t [] [.n, .v, .c, .z] []) ∧
  (∀ (n m : Byte), ∀ row ∈ bitTestRows n m, ∀ (s t : State), s.uncut →
    exec row.instr s = .next t → Kept (row.dst.onBus || row.src.onBus) s t [] [.n, .z] [])

/-- When a form of the 16-bit LD answers a next state, nothing but its destination (a register, or the two bytes at the address and at the next address of the page) has changed; for the 16-bit ADD, ADC, SUB, SBC nothing but the register and N, V, C, Z; for the 16-bit INC and DEC nothing but the register and Z. That the next address after in-page FFFFH is 0000H of the same page is decision D3 of R66, the choice of log 16. Where the form takes bus cycles, in a step that SR does not cut, the bus and the trace move on and the bus master may change the bytes it writes in the break-points. -/
def Obligations.FrameWord : Prop :=
  (∀ (n : Byte) (w : Word), ∀ row ∈ load16Rows n w, ∀ (s t : State), s.uncut →
    exec row.instr s = .next t →
    Kept (row.dst.onBus || row.src.onBus) s t row.dst.fields [] (row.dst.stored s)) ∧
  (∀ (w : Word), ∀ row ∈ arith16Rows w, ∀ (s t : State), s.uncut →
    exec row.instr s = .next t → Kept row.src.onBus s t row.dst.fields [.n, .v, .c, .z] []) ∧
  (∀ row ∈ inc16Rows ++ dec16Rows, ∀ (s t : State), exec row.instr s = .next t →
    Framed s t row.reg.fields [.z] [])

/-- When they answer a next state: EX A,B changes A and B; EX A,[HL] changes A and the byte at [HL]; EX BA,rp changes B, A and rp; PACK A; UPCK A and B; SEP B; MLT HL and N, V, C, Z; DIV with A not 0 HL and N, V, C, Z; AND, OR and XOR SC,#nn only flags. DIV with A = 0 changes N, V, C, Z, PC, SP, CB, the status, IACK and the pending bit of the exception it takes, and the bytes of the frame below SP: that it keeps HL, I1 and I0 and that CB takes NB are decisions D16, D17 and D18 (log 13, log 15), and that the entry is part of the step of DIV is the choice of log 13. Where the form takes bus cycles, in a step that SR does not cut, the bus and the trace move on and the bus master may change the bytes it writes in the break-points. That SP wraps modulo 65536 inside these bytes too, in the page SPP, is decision D28, the choice of log 16. -/
def Obligations.FrameFixedOperands : Prop :=
  ∀ (s t : State),
    (exec .exAB s = .next t → Framed s t [.a, .b] [] []) ∧
    (s.uncut → exec .exAMHl s = .next t → Kept true s t [.a] [] [MemOp.hl.ea s]) ∧
    (∀ row ∈ exchangeBaRows, exec row.instr s = .next t →
      Framed s t (Reg16.ba.fields ++ row.reg.fields) [] []) ∧
    (exec .pack s = .next t → Framed s t [.a] [] []) ∧
    (exec .upck s = .next t → Framed s t [.a, .b] [] []) ∧
    (exec .sep s = .next t → Framed s t [.b] [] []) ∧
    (exec .mlt s = .next t → Framed s t [.h, .l] [.n, .v, .c, .z] []) ∧
    (s.a ≠ 0#8 → exec .div s = .next t → Framed s t [.h, .l] [.n, .v, .c, .z] []) ∧
    (s.a = 0#8 → s.uncut → exec .div s = .next t →
      Kept true s t [.pc, .sp, .cb, .status, .zdivPending, .iackLow] [.n, .v, .c, .z]
        (belowSp s (exceptionFrame s).length)) ∧
    (∀ nn : Byte, ∀ i ∈ [Instr.andScImm nn, Instr.orScImm nn, Instr.xorScImm nn],
      exec i s = .next t → Framed s t [] Flag.all [])

/-- When a form of PUSH answers a next state, nothing but SP and the bytes it stores (as many as its registers have, below SP in the stack page) has changed; when a form of POP does, nothing but SP and the registers it loads (all eight flags for POP SC), and no byte of memory. Where the form takes bus cycles, in a step that SR does not cut, the bus and the trace move on and the bus master may change the bytes it writes in the break-points. That SP wraps modulo 65536 inside these bytes too, in the page SPP, is decision D28, the choice of log 16. -/
def Obligations.FrameStack : Prop :=
  (∀ row ∈ pushRows, ∀ (s t : State), s.uncut →
    exec row.instr s = .next t → Kept true s t [.sp] [] (belowSp s (itemsSize row.items))) ∧
  (∀ row ∈ popRows, ∀ (s t : State), s.uncut →
    exec row.instr s = .next t → Kept true s t ([.sp] ++ itemsFields row.items) (itemsFlags row.items) [])

/-- When they answer a next state: a taken jump changes PC and CB, one not taken NB; DJR also B and Z; a taken call PC, CB, SP and the bytes of its frame, one not taken NB; INT the same with one byte more, and it leaves the status run; RET and RETS PC, SP, CB and NB; RETE also all flags. No other field, flag or byte of memory changes. That INT changes no flag, I1 and I0 among them, is decision D17 (log 14). Where the form takes bus cycles, in a step that SR does not cut, the bus and the trace move on and the bus master may change the bytes it writes in the break-points. That SP wraps modulo 65536 inside these bytes too, in the page SPP, is decision D28, the choice of log 16. -/
def Obligations.FrameBranch : Prop :=
  (∀ (n : Byte) (w : Word), ∀ row ∈ jumpRows n w, ∀ (s t : State), exec row.instr s = .next t →
    Framed s t (if conditionHolds s row.cond then [.pc, .cb] else [.nb]) [] []) ∧
  (∀ (n : Byte) (w : Word), ∀ row ∈ callRows n w, ∀ (s t : State), s.uncut →
    exec row.instr s = .next t →
    Kept (conditionHolds s row.cond) s t (if conditionHolds s row.cond then [.pc, .cb, .sp] else [.nb]) []
      (if conditionHolds s row.cond then belowSp s (callFrame s).length else [])) ∧
  ∀ (s t : State) (n : Byte) (w : Word),
    (exec (.djrNz n) s = .next t → Framed s t [.b, .pc, .cb, .nb] [.z] []) ∧
    (exec .jpHl s = .next t → Framed s t [.pc, .cb] [] []) ∧
    (s.uncut → exec (.jpVec n) s = .next t → Kept true s t [.pc, .cb] [] []) ∧
    (s.uncut → exec (.callMAbs w) s = .next t →
      Kept true s t [.pc, .cb, .sp] [] (belowSp s (callFrame s).length)) ∧
    (s.uncut → exec (.intVec n) s = .next t →
      Kept true s t [.pc, .cb, .sp, .status] [] (belowSp s (exceptionFrame s).length)) ∧
    (s.uncut → exec .ret s = .next t → Kept true s t [.pc, .sp, .cb, .nb] [] []) ∧
    (s.uncut → exec .rets s = .next t → Kept true s t [.pc, .sp, .cb, .nb] [] []) ∧
    (s.uncut → exec .rete s = .next t → Kept true s t [.pc, .sp, .cb, .nb] Flag.all [])

/-- For every instruction, with every value of its operands, and any bytes behind it, the decoder reads the instruction from its encoding and leaves exactly the bytes behind it. -/
def Obligations.DecodeEncode : Prop :=
  ∀ (i : Instr) (rest : List Byte), decode (encode i ++ rest) = .ok (i, rest)

/-- Whenever the decoder reads an instruction from bytes, those bytes are the encoding of that instruction followed by what the decoder leaves: no bit of an encoding is dropped and no two encodings share an instruction. The encoding has one to four bytes. -/
def Obligations.EncodeDecode : Prop :=
  ∀ (bytes : List Byte) (i : Instr) (rest : List Byte), decode bytes = .ok (i, rest) →
    bytes = encode i ++ rest ∧ 1 ≤ (encode i).length ∧ (encode i).length ≤ 4

/-- A first op-code is refused as undefined exactly for 7CH and FEH; a second op-code after CEH exactly where R121 assigns none; after CFH exactly where R122 assigns none. When the CPU fetches at PC an undefined first op-code, or CEH or CFH and behind it an undefined second op-code, the step ends in the fault undefinedOpcode (treatment U1, log 28), in the state behind those reads with PC still at the instruction, the hold-off used up and IACK HIGH (log 35). -/
def Obligations.UndefinedEncodings : Prop :=
  (∀ (b : Byte) (rest : List Byte),
    decode (b :: rest) = .error (.undefinedFirst b) ↔ b.toNat = 0x7C ∨ b.toNat = 0xFE) ∧
  (∀ (b : Byte) (rest : List Byte),
    decode (0xCE#8 :: b :: rest) = .error (.undefinedAfterCE b) ↔ b.toNat ∈ unassignedCE) ∧
  (∀ (b : Byte) (rest : List Byte),
    decode (0xCF#8 :: b :: rest) = .error (.undefinedAfterCF b) ↔
      ¬∃ r ∈ assignedCF, r.1 ≤ b.toNat ∧ b.toNat ≤ r.2) ∧
  (∀ (s t : State) (b : Byte), runs (latchInputs s) → bytesAt [b] (latchInputs s).pc (latchInputs s) t →
    b.toNat = 0x7C ∨ b.toNat = 0xFE → step s = .fault (.undefinedOpcode (passed t))) ∧
  (∀ (s t : State) (b : Byte), runs (latchInputs s) →
    (bytesAt [0xCE#8, b] (latchInputs s).pc (latchInputs s) t → b.toNat ∈ unassignedCE →
      step s = .fault (.undefinedOpcode (passed t))) ∧
    (bytesAt [0xCF#8, b] (latchInputs s).pc (latchInputs s) t →
      (¬∃ r ∈ assignedCF, r.1 ≤ b.toNat ∧ b.toNat ≤ r.2) →
      step s = .fault (.undefinedOpcode (passed t))))

/-- Words written out by hand from the op-code maps: 02 12 is ADD A,#12H; D9 10 0F is OR [BR:10H],#0FH; CE 40 FE is LD A,[IX-2]; CF 6E 00 F8 is LD SP,#F800H; CE 9E 05 is RRC [BR:05H]; CF BD is POP ALE; E7 FA is JRS NZ,FAH; FB 34 12 is CALL [1234H]; CE AE is HALT; CE D9 is DIV; as a table word with the first byte lowest, 0F9CH is AND SC,#0FH. -/
def Obligations.DecodesWords : Prop :=
  decode [0x02#8, 0x12#8] = .ok (.addAImm 0x12#8, []) ∧
  decode [0xD9#8, 0x10#8, 0x0F#8] = .ok (.orMBrImm 0x10#8 0x0F#8, []) ∧
  decode [0xCE#8, 0x40#8, 0xFE#8] = .ok (.ldAMIxDd 0xFE#8, []) ∧
  decode [0xCF#8, 0x6E#8, 0x00#8, 0xF8#8] = .ok (.ldSpImm 0xF800#16, []) ∧
  decode [0xCE#8, 0x9E#8, 0x05#8] = .ok (.rrcMBr 0x05#8, []) ∧
  decode [0xCF#8, 0xBD#8] = .ok (.popAle, []) ∧
  decode [0xE7#8, 0xFA#8] = .ok (.jrsNz 0xFA#8, []) ∧
  decode [0xFB#8, 0x34#8, 0x12#8] = .ok (.callMAbs 0x1234#16, []) ∧
  decode [0xCE#8, 0xAE#8] = .ok (.halt, []) ∧
  decode [0xCE#8, 0xD9#8] = .ok (.div, []) ∧
  decodeTableWord 16 0x0F9C = some (.andScImm 0x0F#8)

/-- When, after the inputs are sampled, SR and BREQ are HIGH, the status is run, no exception factor is taken and the bytes of instruction i can be read at PC one after the other (each at ProgAddr of its own address), the step is exec of i in the state behind the fetch with PC past those bytes, the hold-off used up and IACK HIGH (R719): a fault of exec is the step's, and exec never refuses; a next state t of exec is the step's next state, with the hold-off set if the op-code is in HOLDOFF_SET; but if i itself stored over the byte the overlapped fetch has read (DIV stores nothing: the frame of a zero division is the exception entry's, R652), the step is the fault of U10 in that same state, the store made (log 18, log 35; a byte that held no value counts as changed by any store, the choice of log 18), and if SR went LOW inside the instruction, so that t is in the reset status, t is the step's next state as it is (R704). That the bytes are fetched in rising order is decision D4 (log 17), that each is at ProgAddr of its own address modulo 65536 is decision D29 (log 16). That CB is the bank in ProgAddr in the minimum mode of MODEL2/3 too, and that MODEL0/1 have no bank, are decisions D10 and D9 (log 34). -/
def Obligations.StepRunsDecoded : Prop :=
  ∀ (s u : State) (i : Instr), runs (latchInputs s) → fetches (latchInputs s) i u →
    (∀ r, exec i (begun u i) = .fault r → step s = .fault r) ∧
    (∀ r, exec i (begun u i) ≠ .refused r) ∧
    (∀ t, exec i (begun u i) = .next t → t.status ≠ .reset → overlapped i (begun u i) t = false →
      step s = .next (if opcodeOf i ∈ s.cfg.holdoffSet then t.setIntHoldoff true else t)) ∧
    (∀ t, exec i (begun u i) = .next t → t.status ≠ .reset → overlapped i (begun u i) t = true →
      step s = .fault (.overlappedStore (progAddr (begun u i) (begun u i).pc)
        (if opcodeOf i ∈ s.cfg.holdoffSet then t.setIntHoldoff true else t))) ∧
    (∀ t, exec i (begun u i) = .next t → t.status = .reset → step s = .next t)

/-- For every state whose memory is in its canonical form, whose status is not the transitive exception processing status and in which no zero division waits: if a step answers a next state, that state has the same three properties and the same device parameters; if it faults, the state it stops in has canonical memory, no zero division waiting and the same parameters (its status may be the exception processing one, log 33). Only the canonical form is R60's; the other properties are the model's choices: that no step ends in the exception processing status is log 33 (R700 and R702 give that status as a real one), that no zero division waits is log 13 (R652 keeps it pending until the sampling point behind DIV), and that the parameters stay is log 26. -/
def Obligations.StepKeepsInvariant : Prop :=
  (∀ (s t : State), Inv s → step s = .next t → Inv t ∧ t.cfg = s.cfg) ∧
  (∀ (s : State) (f : Fault), Inv s → step s = .fault f →
    f.state.memWf ∧ f.state.noZdivPending ∧ f.state.cfg = s.cfg)

/-- In State.reset the flags are I1 = I0 = 1 and U, D, N, V, C, Z = 0, NB is 01H, EP, XP and YP are 00H, no factor is latched and no hold-off set (decision D20, log 3), IACK is HIGH (DEDUCED from R719, log 33), no byte of memory holds a value (decision D19, log 4), the status is reset (the reset exception processing is still to come: the choice of log 2), and the invariant holds, of which that no zero division waits is log 13 and that the status is not the transitive one is log 33. The registers that the table calls undefined hold values of the model's own (log 1, log 2) and are not spoken of. -/
def Obligations.ResetState : Prop :=
  State.reset.flag .i1 = true ∧ State.reset.flag .i0 = true ∧ State.reset.flag .u = false ∧
  State.reset.flag .d = false ∧ State.reset.flag .n = false ∧ State.reset.flag .v = false ∧
  State.reset.flag .c = false ∧ State.reset.flag .z = false ∧
  State.reset.nb = 0x01#8 ∧ State.reset.ep = 0x00#8 ∧ State.reset.xp = 0x00#8 ∧ State.reset.yp = 0x00#8 ∧
  State.reset.status = .reset ∧ State.reset.nmiPending = false ∧ State.reset.zdivPending = false ∧
  State.reset.intHoldoff = false ∧ State.reset.iackLow = false ∧ (∀ a, State.reset.byteAt a = none) ∧ Inv State.reset

/-- While SR is LOW a step from any status answers a next state in the reset status with SC = C0H, on MODEL2/3 NB = 01H and EP = XP = YP = 00H, nothing latched or held off (D20, log 3) and memory as it was. From the reset status with SR HIGH and a vector v at 000000H that can be read, the step answers the state behind the reads with PC = v, on MODEL2/3 CB = NB, the status run, IACK LOW until a sampling point takes nothing (R671, R719), and nothing pushed; that the bus master acts in no break-point of this sequence is decision D6, the choice of log 19. When SR goes LOW before a memory access (D31, log 20), a read and a write end there, the bus master's accesses before it made, its own not; an instruction that ends so answers the reset of the state at that point: of the two bytes that LD [hhll],BA writes to RAM, a cut before the second leaves the first written and the second as it was. Which byte is the first, of the vector and of the word stored, is decision D4 of R66 (the lower one, log 17); that the second is at hhll + 1 modulo 65536 of the same page is decision D3 (log 16). -/
def Obligations.ResetSequence : Prop :=
  (∀ (s : State), (latchInputs s).pins.srLow = true → ∃ t, step s = .next t ∧ t.status = .reset ∧
    t.sc = 0xC0#8 ∧ t.nmiPending = false ∧ t.zdivPending = false ∧ t.intHoldoff = false ∧
    t.mem = s.mem ∧ t.cfg = s.cfg ∧
    (s.cfg.model = .model2 ∨ s.cfg.model = .model3 →
      t.nb = 0x01#8 ∧ t.ep = 0x00#8 ∧ t.xp = 0x00#8 ∧ t.yp = 0x00#8)) ∧
  (∀ (s t : State) (v : Word), (latchInputs s).pins.srLow = false → s.status = .reset →
    vectorIs (acknowledged (sealed (latchInputs s))) 0#8 v t →
    step s = .next ((branched v t).setStatus .run)) ∧
  (∀ (s : State) (c : BusCycle) (rest : List BusCycle) (a : Addr) (v : Byte),
    s.bus = c :: rest → c.cut = true →
    readByte s a = .error (.reset (c.master.foldl masterAccess (s.setBus rest))) ∧
    writeByte s a v = .error (.reset (c.master.foldl masterAccess (s.setBus rest)))) ∧
  (∀ u : State, conclude (.error (.reset u)) = .next (resetAssert u)) ∧
  (∀ (s : State) (hhll : Word) (c d : BusCycle),
    s.bus = [c, d] → c.master = [] → c.cut = false → d.master = [] → d.cut = true →
    s.kindAt (dataAddr s s.ep hhll) = .ram →
    ∃ t, exec (.ldMAbsBa hhll) s = .next t ∧ t.status = .reset ∧ t.sc = 0xC0#8 ∧
      t.byteAt (dataAddr s s.ep hhll) = some s.a ∧
      ∀ b, b ≠ dataAddr s s.ep hhll → t.byteAt b = s.byteAt b)

/-- On MODEL2/3 the effective address of a memory operand is its page (EP for [HL], [BR:ll], [hhll]; XP and YP for the IX and IY forms; SPP for [SP+dd]) times 65536 plus its in-page address; on MODEL0/1 it is the in-page address. The in-page address is HL, the index register, BR over ll, hhll, or the register plus the displacement dd or L as signed data, modulo 65536. PC addresses use the bank CB in the upper half of the program space and bank 0 in the lower half, with A23 = 0; stack addresses use SPP. That the sums wrap modulo 65536 is decision D2 of R72, the choice of log 16; the addresses of MODEL0/1 are decision D9, and that PC addresses use CB in the minimum mode of MODEL2/3 too is decision D10, the choices of log 34. -/
def Obligations.EffectiveAddresses : Prop :=
  ∀ (s : State) (page dd ll : Byte) (a hhll : Word),
    let paged := fun (p : Byte) (x : Nat) =>
      if s.cfg.model = .model2 ∨ s.cfg.model = .model3 then 65536 * p.toNat + x % 65536 else x % 65536
    let plus := fun (x : Word) (d : Byte) => (((x.toNat : Int) + d.toInt) % 65536).toNat
    (dataAddr s page a).toNat = paged page a.toNat ∧
    (stackAddr s a).toNat = paged s.cfg.spp a.toNat ∧
    (progAddr s a).toNat =
      (if s.cfg.model = .model2 ∨ s.cfg.model = .model3 then
        (if 32768 ≤ a.toNat then 32768 * s.cb.toNat + (a.toNat - 32768) else a.toNat)
      else a.toNat) ∧
    (MemOp.hl.ea s).toNat = paged s.ep (256 * s.h.toNat + s.l.toNat) ∧
    (MemOp.ix.ea s).toNat = paged s.xp s.ix.toNat ∧
    (MemOp.iy.ea s).toNat = paged s.yp s.iy.toNat ∧
    ((MemOp.br ll).ea s).toNat = paged s.ep (256 * s.br.toNat + ll.toNat) ∧
    ((MemOp.abs hhll).ea s).toNat = paged s.ep hhll.toNat ∧
    ((MemOp.ixd dd).ea s).toNat = paged s.xp (plus s.ix dd) ∧
    ((MemOp.iyd dd).ea s).toNat = paged s.yp (plus s.iy dd) ∧
    ((MemOp.spd dd).ea s).toNat = paged s.cfg.spp (plus s.sp dd) ∧
    (MemOp.ixl.ea s).toNat = paged s.xp (plus s.ix s.l) ∧
    (MemOp.iyl.ea s).toNat = paged s.yp (plus s.iy s.l)

/-- After a byte is written to a RAM address that byte of memory is the written one and every other is what the break-point before the write left; where nothing more comes with the accesses of the step, reading the address gives the byte, and reading any address that is no device's gives a byte exactly if it did before, the same one at every other address. A write to ROM or to an absent address with nothing in its break-point changes nothing but the trace (log 6). After a word is written to RAM at an offset of a page, reading the word gives it back and its low byte is at the offset: that this is so at FFFFH too, where the word continues at 0000H of the same page, is decision D3 of R66, the choice of log 16. -/
def Obligations.ReadAfterWrite : Prop :=
  (∀ (s t : State) (a : Addr) (v : Byte), s.kindAt a = .ram → writeByte s a v = .ok t →
    (∀ b, t.byteAt b = if b = a then some v else s.cycled.byteAt b) ∧
    (t.bus = [] → readByte t a = .ok (v, t.record (.read a v)))) ∧
  (∀ (s t : State) (a b : Addr) (v w : Byte), s.bus = [] → writeByte s a v = .ok t → b ≠ a →
    s.kindAt b ≠ .io → ((∃ u, readByte t b = .ok (w, u)) ↔ ∃ u, readByte s b = .ok (w, u))) ∧
  (∀ (s : State) (a : Addr) (v : Byte), s.bus = [] → s.kindAt a = .rom ∨ s.kindAt a = .nothing →
    writeByte s a v = .ok (s.record (.write a v))) ∧
  (∀ (s t : State) (page : Byte) (a v : Word), s.bus = [] →
    s.kindAt (dataAddr s page a) = .ram → s.kindAt (dataAddr s page (a + 1#16)) = .ram →
    writeWord s page a v = .ok t →
    (∃ u, readWord t page a = .ok (v, u)) ∧
      t.byteAt (dataAddr s page a) = some (BitVec.ofNat 8 (v.toNat % 256)))

/-- In a bus cycle that SR does not cut: reading a RAM or ROM byte that holds no value faults (U7, log 4); one that holds a value gives it; reading write-only or absent memory faults (U9, log 6), both in the state behind the break-point (R735); reading an I/O address gives the byte that comes with the access, or else that of the device function, which is given every access before it (D8, log 5); no write stops, and a write to an I/O address changes nothing but the trace, by which the device sees it. With nothing listed for the access the bus cycle finds the state as it is. -/
def Obligations.MemoryStops : Prop :=
  (∀ (s u : State) (d : Option Byte) (a : Addr), busCycle s = .ok (u, d) →
    (s.kindAt a = .ram ∨ s.kindAt a = .rom → u.byteAt a = none →
      readByte s a = .error (.fault (.unwrittenByte a u))) ∧
    (∀ v, s.kindAt a = .ram ∨ s.kindAt a = .rom → u.byteAt a = some v →
      readByte s a = .ok (v, u.record (.read a v))) ∧
    (s.kindAt a = .writeOnly ∨ s.kindAt a = .nothing → readByte s a = .error (.fault (.unreadable a u))) ∧
    (s.kindAt a = .io → ∀ v, v = (match d with | some x => x | none => Config.device u.trace a) →
      readByte s a = .ok (v, u.record (.read a v))) ∧
    (∀ v, ∃ t, writeByte s a v = .ok t ∧ t.trace = .write a v :: u.trace ∧
      (s.kindAt a = .io → t = u.record (.write a v)))) ∧
  (∀ (s : State), s.bus = [] → busCycle s = .ok (s, none))

/-- MLT and DIV on MODEL0 and MODEL2, and nothing else, end in the fault noMulDiv (treatment U3, reported as 3); the 18 instructions that name NB, EP, XP, YP, IP or ALE on MODEL0 and MODEL1, and nothing else, end in the fault noExpansion (treatment U4, reported as 4); an instruction ends in one of the two exactly if it is not well formed on the model, and the state it stops in is the one it was given. That the fault comes before the operands are read is the choice of log 27. -/
def Obligations.AbsentInstructions : Prop :=
  (∀ (i : Instr) (s : State), exec i s = .fault (.noMulDiv s) ↔
    (i = .mlt ∨ i = .div) ∧ (s.cfg.model = .model0 ∨ s.cfg.model = .model2)) ∧
  (∀ (i : Instr) (s : State), exec i s = .fault (.noExpansion s) ↔
    (∃ n, i ∈ expansionInstrs n) ∧ (s.cfg.model = .model0 ∨ s.cfg.model = .model1)) ∧
  (∀ (i : Instr) (s t : State),
    exec i s = .fault (.noMulDiv t) ∨ exec i s = .fault (.noExpansion t) → t = s ∧ ¬WellFormed s.cfg.model i) ∧
  (∀ (i : Instr) (s : State), ¬WellFormed s.cfg.model i →
    exec i s = .fault (.noMulDiv s) ∨ exec i s = .fault (.noExpansion s)) ∧
  (∀ s : State, (Fault.noMulDiv s).entry = 3 ∧ (Fault.noExpansion s).entry = 4)

/-- A zero division not yet taken comes first; then the hold-off or IMASK LOW stops every interrupt; then NMI whatever I1 and I0 are; then IRQ3 unless I1 I0 = 11; then IRQ2 if I1 = 0; then IRQ1 if I1 I0 = 00; else nothing is taken. Sampling takes the next entry of the schedule, with what comes on the bus, and with none left keeps the levels without a new edge and without accesses: the form of the inputs is the model's choice of log 22. It sets the NMI latch where there is an edge and leaves it as it was where there is none, so that a second edge is not counted (decision D23, log 23). A step that does not reset the CPU keeps a set latch unless it takes NMI, under IMASK LOW too (decision D24, log 24), and clears it where it does. -/
def Obligations.FactorPriority : Prop :=
  (∀ (s : State), pendingFactor s = factorTaken s) ∧
  (∀ (s : State) (p : Pins) (rest : List Pins), s.schedule = p :: rest →
    (latchInputs s).nmiPending = (s.nmiPending || p.nmiEdge) ∧ (latchInputs s).pins = p ∧
      (latchInputs s).schedule = rest ∧ (latchInputs s).bus = p.cycles) ∧
  (∀ (s : State), s.schedule = [] →
    (latchInputs s).nmiPending = s.nmiPending ∧ (latchInputs s).bus = [] ∧
      (latchInputs s).pins = { s.pins with nmiEdge := false, master := [], cycles := [] }) ∧
  (∀ (s t : State), step s = .next t → t.status ≠ .reset →
    (takes (latchInputs s) .nmi → t.nmiPending = false) ∧
    (¬takes (latchInputs s) .nmi → t.nmiPending = (latchInputs s).nmiPending))

/-- When, after the inputs are sampled, SR is HIGH, the status is run, halt or sleep, a factor is taken (whatever BREQ is: log 19), SR does not cut the step and the vector v of the factor can be read behind the frame, the step answers the state in which the frame (CB in the maximum mode, PC, SC before the mask changes) is pushed, I1 and I0 are those of R660 (unchanged for a zero division, D17, log 13), the factor's latch is cleared, PC is v, on MODEL2/3 CB is NB (D18, log 15), the status is run, and nothing else has changed. Where the low byte of the vector cannot be read, with nothing coming from the outside, the step stops behind the frame and the mask, in the exception processing status (R735, log 35). The bus master acts in no break-point of the entry but the one before its first access; where the entry follows another one, IACK being LOW (R656, R671), and in SLEEP in none (D6, log 19). That SP wraps modulo 65536 inside these bytes too, in the page SPP, is decision D28, the choice of log 16. That the lower byte of the vector is read first is decision D4 of R66, the choice of log 17. That a vector at FFH continues at 000100H is decision D3 (log 16). That the byte given for IRQ1 to IRQ3 is the vector address as it is, odd or below 06H too, is decision D11, the choice of log 21; that CB takes NB in the minimum mode of MODEL2/3 too is decision D10, the choice of log 34. -/
def Obligations.ExceptionTaken : Prop :=
  (∀ (s t : State) (f : Factor) (v : Word), takes (latchInputs s) f → (latchInputs s).uncut →
    vectorIs (maskedFor (pushed (exceptionFrame (latchInputs s))
      (entering (unlatched (latchInputs s) f))) f) (vectorOf (latchInputs s) f) v t →
    step s = .next ((branched v t).setStatus .run)) ∧
  (∀ (s : State) (f : Factor) (g : Fault), takes (latchInputs s) f → (latchInputs s).bus = [] →
    readByte (maskedFor (pushed (exceptionFrame (latchInputs s))
      (entering (unlatched (latchInputs s) f))) f) (vectorAddr (vectorOf (latchInputs s) f) 0) = .error (.fault g) →
    step s = .fault g ∧ g.state = maskedFor (pushed (exceptionFrame (latchInputs s))
      (entering (unlatched (latchInputs s) f))) f)

/-- After a step that runs an instruction which no reset cuts, the hold-off is set exactly if its op-code is in HOLDOFF_SET; at the next sampling point a set hold-off keeps every interrupt from being taken. The default set (D22, log 8) holds exactly the op-codes of LD NB,A; LD NB,#bb; AND, OR, XOR SC,#nn; LD SC,#nn; LD SC,A; POP SC; RETE. -/
def Obligations.HoldOffOneInstruction : Prop :=
  (∀ (s t u : State) (i : Instr), runs (latchInputs s) → fetches (latchInputs s) i u →
    step s = .next t → t.status ≠ .reset →
    (t.intHoldoff = true ↔ opcodeOf i ∈ s.cfg.holdoffSet)) ∧
  (∀ (t : State), t.intHoldoff = true → t.zdivPending = false → pendingFactor (latchInputs t) = none) ∧
  (∀ (i : Instr), opcodeOf i ∈ Config.defaultHoldoffSet ↔ ∃ n, i ∈ holdoffInstrs n)

/-- If an exception entry, or INT [kk], takes a state s to t in a step with which nothing comes from the outside (no bus master, no reset, log 19 and 20), and the bytes of the frame are RAM, then RETE in t answers a next state u in which PC, SC and SP are those of s, in the maximum mode CB and NB are the CB of s, otherwise CB and NB are those of t, and A, B, L, H, BR, EP, XP, YP, IX, IY are those of s; memory differs from that of s only in the bytes of the frame. That SP wraps modulo 65536 inside these bytes too, in the page SPP, is decision D28, the choice of log 16. -/
def Obligations.ReturnUndoesEntry : Prop :=
  ∀ (s t : State), s.bus = [] →
    ((∃ f, exceptionEntry f s = .ok t) ∨ (∃ kk, exec (.intVec kk) s = .next t)) →
    inRam s (belowSp s (exceptionFrame s).length) →
    ∃ u, exec .rete t = .next u ∧ u.pc = s.pc ∧ u.sc = s.sc ∧ u.sp = s.sp ∧
      (s.cfg.maxMode = true → u.cb = s.cb ∧ u.nb = s.cb) ∧
      (s.cfg.maxMode = false → u.cb = t.cb ∧ u.nb = t.nb) ∧
      Framed s u [.cb, .nb, .status, .iackLow, .trace] [] (belowSp s (exceptionFrame s).length)

/-- If a CARS or CARL whose condition holds, or a CALL [hhll], takes a state s (PC already behind the call) to t in a step with which nothing comes from the outside (no bus master, no reset, log 19 and 20), and the bytes of the frame are RAM, then RET in t answers a next state u in which PC and SP are those of s, in the maximum mode CB and NB are the CB of s, and every other register and flag is that of s; memory differs only in the bytes of the frame. RETS answers the same with PC two higher. That SP wraps modulo 65536 inside these bytes too, in the page SPP, is decision D28, the choice of log 16. -/
def Obligations.CallThenReturn : Prop :=
  ∀ (n : Byte) (w : Word) (s t : State), s.bus = [] →
    ((∃ row ∈ callRows n w, conditionHolds s row.cond = true ∧ exec row.instr s = .next t) ∨
      exec (.callMAbs w) s = .next t) →
    inRam s (belowSp s (callFrame s).length) →
    ∃ u, exec .ret t = .next u ∧ exec .rets t = .next (u.setPc (s.pc + 2#16)) ∧
      u.pc = s.pc ∧ u.sp = s.sp ∧
      (s.cfg.maxMode = true → u.cb = s.cb ∧ u.nb = s.cb) ∧
      (s.cfg.maxMode = false → u.cb = t.cb ∧ u.nb = t.nb) ∧
      Framed s u [.cb, .nb, .trace] [] (belowSp s (callFrame s).length)

/-- For each PUSH with the POP of the same registers (PUSH ALL with POP ALL, PUSH ALE with POP ALE among them), on a model that has the registers, where the bytes below SP are RAM and nothing comes from the outside (no bus master, no reset): the PUSH answers a next state t, the POP in t answers a next state u, and u differs from the first state at most in those bytes of memory and in the trace. That SP wraps modulo 65536 inside these bytes too, in the page SPP, is decision D28, the choice of log 16. -/
def Obligations.PushThenPop : Prop :=
  ∀ p ∈ stackPairs, ∀ (s : State), WellFormed s.cfg.model p.1.instr → s.bus = [] →
    inRam s (belowSp s (itemsSize p.1.items)) →
    ∃ t u, exec p.1.instr s = .next t ∧ exec p.2 t = .next u ∧
      Framed s u [.trace] [] (belowSp s (itemsSize p.1.items))

/-- When an instruction other than AND, OR, XOR SC,#nn; LD SC,#nn; LD SC,A; POP SC; RETE answers a next state in a step that SR does not cut, D, U, I1 and I0 are unchanged. That INT and a DIV by zero leave I1 and I0 is decision D17 (log 13, log 14). -/
def Obligations.ModeFlagsKept : Prop :=
  ∀ (i : Instr) (s t : State), (∀ n, i ∉ wholeScWriters n) → s.uncut → exec i s = .next t →
    t.flag .d = s.flag .d ∧ t.flag .u = s.flag .u ∧ t.flag .i1 = s.flag .i1 ∧ t.flag .i0 = s.flag .i0

/-- In HALT with BREQ HIGH and in SLEEP, with SR HIGH, a step at which no factor is taken (a masked request among them: D21, log 25) answers the state after sampling with only the hold-off used up and IACK HIGH: the status stays, no register, flag or byte of memory changes. A step that takes a factor is the statement ExceptionTaken. A run that has ended by R735 (a) (D25, log 35) is in HALT or SLEEP, is reported as halted or sleeping with that state whatever the step budget, and, where BREQ is HIGH, its next step changes nothing but the inputs, the NMI latch, the hold-off and IACK, and it has still ended. A run that has not ended and whose step faults ends there, in the state in which the fault stops the step (log 17, log 35), and reports the entry of the fault in file 93. -/
def Obligations.StandbyWaits : Prop :=
  (∀ (s : State), (latchInputs s).pins.srLow = false →
    (s.status = .sleep ∨ s.status = .halt ∧ (latchInputs s).pins.breqLow = false) →
    pendingFactor (latchInputs s) = none →
    step s = .next (passed (latchInputs s))) ∧
  (∀ (s : State), ended s = true →
    (s.status = .halt ∧ (∀ n, run n s = (.halted, s)) ∨ s.status = .sleep ∧ ∀ n, run n s = (.sleeping, s)) ∧
    ((latchInputs s).pins.breqLow = false → ∃ t, step s = .next t ∧ ended t = true ∧
      Framed s t [.pins, .schedule, .bus, .nmiPending, .intHoldoff, .iackLow] [] [])) ∧
  (∀ (s : State) (f : Fault) (n : Nat), ended s = false → step s = .fault f →
    run (n + 1) s = (.fault f.entry, f.state))

/-- With SR HIGH: a step from run or halt that takes no factor with BREQ LOW enters the bus authority release status with IACK HIGH, and the bus master's accesses of that step take effect; while BREQ stays LOW the step does only those; with BREQ HIGH the step returns to the status it came from. The accesses change nothing but memory and the trace, and no byte that they do not write. Inside an instruction (decisions D5 and D6, log 19): an access of the CPU sees memory as the bus master's accesses before it left it; of a word read from RAM, a write of the bus master to the upper byte between the two bus cycles gives the upper half, and the lower half is as before; EX A,[HL] loads the byte of before and overwrites what the bus master writes there between its read and its write. That the lower byte of the word is read first is decision D4 of R66 (log 17), that the upper one is at hhll + 1 modulo 65536 of the same page is decision D3 (log 16). -/
def Obligations.BusRelease : Prop :=
  (∀ (s : State), (latchInputs s).pins.srLow = false → (latchInputs s).pins.breqLow = true →
    (s.status = .run → pendingFactor (latchInputs s) = none →
      step s = .next (((busMaster (latchInputs s)).setIackLow false).setStatus (.busReleased false))) ∧
    (s.status = .halt → pendingFactor (latchInputs s) = none →
      step s = .next (((busMaster (latchInputs s)).setIackLow false).setStatus (.busReleased true))) ∧
    (∀ h, s.status = .busReleased h → step s = .next (busMaster (latchInputs s)))) ∧
  (∀ (s : State) (h : Bool), (latchInputs s).pins.srLow = false → (latchInputs s).pins.breqLow = false →
    s.status = .busReleased h →
    step s = .next ((latchInputs s).setStatus (if h then .halt else .run))) ∧
  (∀ (s : State), Framed s (busMaster s) [.trace] [] (s.pins.master.flatMap MasterAccess.written)) ∧
  (∀ (s : State) (c : BusCycle) (rest : List BusCycle), s.bus = c :: rest → c.cut = false →
    busCycle s = .ok (c.master.foldl masterAccess (s.setBus rest), c.data)) ∧
  (∀ (s : State) (hhll : Word) (lo old new : Byte) (c d : BusCycle), s.bus = [c, d] →
    c.master = [] → c.cut = false → d.master = [.write (dataAddr s s.ep (hhll + 1#16)) new] → d.cut = false →
    s.kindAt (dataAddr s s.ep hhll) = .ram → s.kindAt (dataAddr s s.ep (hhll + 1#16)) = .ram →
    s.byteAt (dataAddr s s.ep hhll) = some lo → s.byteAt (dataAddr s s.ep (hhll + 1#16)) = some old →
    ∃ t, exec (.ldBaMAbs hhll) s = .next t ∧ t.a = lo ∧ t.b = new) ∧
  (∀ (s : State) (old new : Byte) (c d : BusCycle), s.bus = [c, d] →
    c.master = [] → c.cut = false → d.master = [.write (MemOp.hl.ea s) new] → d.cut = false →
    s.kindAt (MemOp.hl.ea s) = .ram → s.byteAt (MemOp.hl.ea s) = some old →
    ∃ t, exec .exAMHl s = .next t ∧ t.a = old ∧ t.byteAt (MemOp.hl.ea s) = some s.a ∧
      t.trace = .write (MemOp.hl.ea s) s.a :: .masterWrite (MemOp.hl.ea s) new ::
        .read (MemOp.hl.ea s) old :: s.trace)
end

