-- ==== Sys2Proof/Laws/State.lean ====
section
/-! SUPPORT. One lemma per field per update of State, all true by rfl (or by the cases of a register), so that no proof unfolds a record update. -/

namespace Sys2Proof.Machine

variable (s : State)

@[simp] theorem State.setPc_a (v : Word) : (s.setPc v).a = s.a := rfl
@[simp] theorem State.setPc_b (v : Word) : (s.setPc v).b = s.b := rfl
@[simp] theorem State.setPc_l (v : Word) : (s.setPc v).l = s.l := rfl
@[simp] theorem State.setPc_h (v : Word) : (s.setPc v).h = s.h := rfl
@[simp] theorem State.setPc_br (v : Word) : (s.setPc v).br = s.br := rfl
@[simp] theorem State.setPc_sc (v : Word) : (s.setPc v).sc = s.sc := rfl
@[simp] theorem State.setPc_nb (v : Word) : (s.setPc v).nb = s.nb := rfl
@[simp] theorem State.setPc_cb (v : Word) : (s.setPc v).cb = s.cb := rfl
@[simp] theorem State.setPc_ep (v : Word) : (s.setPc v).ep = s.ep := rfl
@[simp] theorem State.setPc_xp (v : Word) : (s.setPc v).xp = s.xp := rfl
@[simp] theorem State.setPc_yp (v : Word) : (s.setPc v).yp = s.yp := rfl
@[simp] theorem State.setPc_ix (v : Word) : (s.setPc v).ix = s.ix := rfl
@[simp] theorem State.setPc_iy (v : Word) : (s.setPc v).iy = s.iy := rfl
@[simp] theorem State.setPc_sp (v : Word) : (s.setPc v).sp = s.sp := rfl
@[simp] theorem State.setPc_pc (v : Word) : (s.setPc v).pc = v := rfl
@[simp] theorem State.setPc_status (v : Word) : (s.setPc v).status = s.status := rfl
@[simp] theorem State.setPc_nmiPending (v : Word) : (s.setPc v).nmiPending = s.nmiPending := rfl
@[simp] theorem State.setPc_zdivPending (v : Word) : (s.setPc v).zdivPending = s.zdivPending := rfl
@[simp] theorem State.setPc_intHoldoff (v : Word) : (s.setPc v).intHoldoff = s.intHoldoff := rfl
@[simp] theorem State.setPc_iackLow (v : Word) : (s.setPc v).iackLow = s.iackLow := rfl
@[simp] theorem State.setPc_mem (v : Word) : (s.setPc v).mem = s.mem := rfl
@[simp] theorem State.setPc_cfg (v : Word) : (s.setPc v).cfg = s.cfg := rfl
@[simp] theorem State.setPc_pins (v : Word) : (s.setPc v).pins = s.pins := rfl
@[simp] theorem State.setPc_schedule (v : Word) : (s.setPc v).schedule = s.schedule := rfl
@[simp] theorem State.setPc_bus (v : Word) : (s.setPc v).bus = s.bus := rfl
@[simp] theorem State.setPc_trace (v : Word) : (s.setPc v).trace = s.trace := rfl
@[simp] theorem State.setPc_freeCount (v : Word) : (s.setPc v).freeCount = s.freeCount := rfl

@[simp] theorem State.setSp_a (v : Word) : (s.setSp v).a = s.a := rfl
@[simp] theorem State.setSp_b (v : Word) : (s.setSp v).b = s.b := rfl
@[simp] theorem State.setSp_l (v : Word) : (s.setSp v).l = s.l := rfl
@[simp] theorem State.setSp_h (v : Word) : (s.setSp v).h = s.h := rfl
@[simp] theorem State.setSp_br (v : Word) : (s.setSp v).br = s.br := rfl
@[simp] theorem State.setSp_sc (v : Word) : (s.setSp v).sc = s.sc := rfl
@[simp] theorem State.setSp_nb (v : Word) : (s.setSp v).nb = s.nb := rfl
@[simp] theorem State.setSp_cb (v : Word) : (s.setSp v).cb = s.cb := rfl
@[simp] theorem State.setSp_ep (v : Word) : (s.setSp v).ep = s.ep := rfl
@[simp] theorem State.setSp_xp (v : Word) : (s.setSp v).xp = s.xp := rfl
@[simp] theorem State.setSp_yp (v : Word) : (s.setSp v).yp = s.yp := rfl
@[simp] theorem State.setSp_ix (v : Word) : (s.setSp v).ix = s.ix := rfl
@[simp] theorem State.setSp_iy (v : Word) : (s.setSp v).iy = s.iy := rfl
@[simp] theorem State.setSp_sp (v : Word) : (s.setSp v).sp = v := rfl
@[simp] theorem State.setSp_pc (v : Word) : (s.setSp v).pc = s.pc := rfl
@[simp] theorem State.setSp_status (v : Word) : (s.setSp v).status = s.status := rfl
@[simp] theorem State.setSp_nmiPending (v : Word) : (s.setSp v).nmiPending = s.nmiPending := rfl
@[simp] theorem State.setSp_zdivPending (v : Word) : (s.setSp v).zdivPending = s.zdivPending := rfl
@[simp] theorem State.setSp_intHoldoff (v : Word) : (s.setSp v).intHoldoff = s.intHoldoff := rfl
@[simp] theorem State.setSp_iackLow (v : Word) : (s.setSp v).iackLow = s.iackLow := rfl
@[simp] theorem State.setSp_mem (v : Word) : (s.setSp v).mem = s.mem := rfl
@[simp] theorem State.setSp_cfg (v : Word) : (s.setSp v).cfg = s.cfg := rfl
@[simp] theorem State.setSp_pins (v : Word) : (s.setSp v).pins = s.pins := rfl
@[simp] theorem State.setSp_schedule (v : Word) : (s.setSp v).schedule = s.schedule := rfl
@[simp] theorem State.setSp_bus (v : Word) : (s.setSp v).bus = s.bus := rfl
@[simp] theorem State.setSp_trace (v : Word) : (s.setSp v).trace = s.trace := rfl
@[simp] theorem State.setSp_freeCount (v : Word) : (s.setSp v).freeCount = s.freeCount := rfl

@[simp] theorem State.setMem_a (v : Memory) : (s.setMem v).a = s.a := rfl
@[simp] theorem State.setMem_b (v : Memory) : (s.setMem v).b = s.b := rfl
@[simp] theorem State.setMem_l (v : Memory) : (s.setMem v).l = s.l := rfl
@[simp] theorem State.setMem_h (v : Memory) : (s.setMem v).h = s.h := rfl
@[simp] theorem State.setMem_br (v : Memory) : (s.setMem v).br = s.br := rfl
@[simp] theorem State.setMem_sc (v : Memory) : (s.setMem v).sc = s.sc := rfl
@[simp] theorem State.setMem_nb (v : Memory) : (s.setMem v).nb = s.nb := rfl
@[simp] theorem State.setMem_cb (v : Memory) : (s.setMem v).cb = s.cb := rfl
@[simp] theorem State.setMem_ep (v : Memory) : (s.setMem v).ep = s.ep := rfl
@[simp] theorem State.setMem_xp (v : Memory) : (s.setMem v).xp = s.xp := rfl
@[simp] theorem State.setMem_yp (v : Memory) : (s.setMem v).yp = s.yp := rfl
@[simp] theorem State.setMem_ix (v : Memory) : (s.setMem v).ix = s.ix := rfl
@[simp] theorem State.setMem_iy (v : Memory) : (s.setMem v).iy = s.iy := rfl
@[simp] theorem State.setMem_sp (v : Memory) : (s.setMem v).sp = s.sp := rfl
@[simp] theorem State.setMem_pc (v : Memory) : (s.setMem v).pc = s.pc := rfl
@[simp] theorem State.setMem_status (v : Memory) : (s.setMem v).status = s.status := rfl
@[simp] theorem State.setMem_nmiPending (v : Memory) : (s.setMem v).nmiPending = s.nmiPending := rfl
@[simp] theorem State.setMem_zdivPending (v : Memory) : (s.setMem v).zdivPending = s.zdivPending := rfl
@[simp] theorem State.setMem_intHoldoff (v : Memory) : (s.setMem v).intHoldoff = s.intHoldoff := rfl
@[simp] theorem State.setMem_iackLow (v : Memory) : (s.setMem v).iackLow = s.iackLow := rfl
@[simp] theorem State.setMem_mem (v : Memory) : (s.setMem v).mem = v := rfl
@[simp] theorem State.setMem_cfg (v : Memory) : (s.setMem v).cfg = s.cfg := rfl
@[simp] theorem State.setMem_pins (v : Memory) : (s.setMem v).pins = s.pins := rfl
@[simp] theorem State.setMem_schedule (v : Memory) : (s.setMem v).schedule = s.schedule := rfl
@[simp] theorem State.setMem_bus (v : Memory) : (s.setMem v).bus = s.bus := rfl
@[simp] theorem State.setMem_trace (v : Memory) : (s.setMem v).trace = s.trace := rfl
@[simp] theorem State.setMem_freeCount (v : Memory) : (s.setMem v).freeCount = s.freeCount := rfl

@[simp] theorem State.setStatus_a (v : Status) : (s.setStatus v).a = s.a := rfl
@[simp] theorem State.setStatus_b (v : Status) : (s.setStatus v).b = s.b := rfl
@[simp] theorem State.setStatus_l (v : Status) : (s.setStatus v).l = s.l := rfl
@[simp] theorem State.setStatus_h (v : Status) : (s.setStatus v).h = s.h := rfl
@[simp] theorem State.setStatus_br (v : Status) : (s.setStatus v).br = s.br := rfl
@[simp] theorem State.setStatus_sc (v : Status) : (s.setStatus v).sc = s.sc := rfl
@[simp] theorem State.setStatus_nb (v : Status) : (s.setStatus v).nb = s.nb := rfl
@[simp] theorem State.setStatus_cb (v : Status) : (s.setStatus v).cb = s.cb := rfl
@[simp] theorem State.setStatus_ep (v : Status) : (s.setStatus v).ep = s.ep := rfl
@[simp] theorem State.setStatus_xp (v : Status) : (s.setStatus v).xp = s.xp := rfl
@[simp] theorem State.setStatus_yp (v : Status) : (s.setStatus v).yp = s.yp := rfl
@[simp] theorem State.setStatus_ix (v : Status) : (s.setStatus v).ix = s.ix := rfl
@[simp] theorem State.setStatus_iy (v : Status) : (s.setStatus v).iy = s.iy := rfl
@[simp] theorem State.setStatus_sp (v : Status) : (s.setStatus v).sp = s.sp := rfl
@[simp] theorem State.setStatus_pc (v : Status) : (s.setStatus v).pc = s.pc := rfl
@[simp] theorem State.setStatus_status (v : Status) : (s.setStatus v).status = v := rfl
@[simp] theorem State.setStatus_nmiPending (v : Status) : (s.setStatus v).nmiPending = s.nmiPending := rfl
@[simp] theorem State.setStatus_zdivPending (v : Status) : (s.setStatus v).zdivPending = s.zdivPending := rfl
@[simp] theorem State.setStatus_intHoldoff (v : Status) : (s.setStatus v).intHoldoff = s.intHoldoff := rfl
@[simp] theorem State.setStatus_iackLow (v : Status) : (s.setStatus v).iackLow = s.iackLow := rfl
@[simp] theorem State.setStatus_mem (v : Status) : (s.setStatus v).mem = s.mem := rfl
@[simp] theorem State.setStatus_cfg (v : Status) : (s.setStatus v).cfg = s.cfg := rfl
@[simp] theorem State.setStatus_pins (v : Status) : (s.setStatus v).pins = s.pins := rfl
@[simp] theorem State.setStatus_schedule (v : Status) : (s.setStatus v).schedule = s.schedule := rfl
@[simp] theorem State.setStatus_bus (v : Status) : (s.setStatus v).bus = s.bus := rfl
@[simp] theorem State.setStatus_trace (v : Status) : (s.setStatus v).trace = s.trace := rfl
@[simp] theorem State.setStatus_freeCount (v : Status) : (s.setStatus v).freeCount = s.freeCount := rfl

@[simp] theorem State.setNb_a (v : Byte) : (s.setNb v).a = s.a := rfl
@[simp] theorem State.setNb_b (v : Byte) : (s.setNb v).b = s.b := rfl
@[simp] theorem State.setNb_l (v : Byte) : (s.setNb v).l = s.l := rfl
@[simp] theorem State.setNb_h (v : Byte) : (s.setNb v).h = s.h := rfl
@[simp] theorem State.setNb_br (v : Byte) : (s.setNb v).br = s.br := rfl
@[simp] theorem State.setNb_sc (v : Byte) : (s.setNb v).sc = s.sc := rfl
@[simp] theorem State.setNb_nb (v : Byte) : (s.setNb v).nb = v := rfl
@[simp] theorem State.setNb_cb (v : Byte) : (s.setNb v).cb = s.cb := rfl
@[simp] theorem State.setNb_ep (v : Byte) : (s.setNb v).ep = s.ep := rfl
@[simp] theorem State.setNb_xp (v : Byte) : (s.setNb v).xp = s.xp := rfl
@[simp] theorem State.setNb_yp (v : Byte) : (s.setNb v).yp = s.yp := rfl
@[simp] theorem State.setNb_ix (v : Byte) : (s.setNb v).ix = s.ix := rfl
@[simp] theorem State.setNb_iy (v : Byte) : (s.setNb v).iy = s.iy := rfl
@[simp] theorem State.setNb_sp (v : Byte) : (s.setNb v).sp = s.sp := rfl
@[simp] theorem State.setNb_pc (v : Byte) : (s.setNb v).pc = s.pc := rfl
@[simp] theorem State.setNb_status (v : Byte) : (s.setNb v).status = s.status := rfl
@[simp] theorem State.setNb_nmiPending (v : Byte) : (s.setNb v).nmiPending = s.nmiPending := rfl
@[simp] theorem State.setNb_zdivPending (v : Byte) : (s.setNb v).zdivPending = s.zdivPending := rfl
@[simp] theorem State.setNb_intHoldoff (v : Byte) : (s.setNb v).intHoldoff = s.intHoldoff := rfl
@[simp] theorem State.setNb_iackLow (v : Byte) : (s.setNb v).iackLow = s.iackLow := rfl
@[simp] theorem State.setNb_mem (v : Byte) : (s.setNb v).mem = s.mem := rfl
@[simp] theorem State.setNb_cfg (v : Byte) : (s.setNb v).cfg = s.cfg := rfl
@[simp] theorem State.setNb_pins (v : Byte) : (s.setNb v).pins = s.pins := rfl
@[simp] theorem State.setNb_schedule (v : Byte) : (s.setNb v).schedule = s.schedule := rfl
@[simp] theorem State.setNb_bus (v : Byte) : (s.setNb v).bus = s.bus := rfl
@[simp] theorem State.setNb_trace (v : Byte) : (s.setNb v).trace = s.trace := rfl
@[simp] theorem State.setNb_freeCount (v : Byte) : (s.setNb v).freeCount = s.freeCount := rfl

@[simp] theorem State.setCb_a (v : Byte) : (s.setCb v).a = s.a := rfl
@[simp] theorem State.setCb_b (v : Byte) : (s.setCb v).b = s.b := rfl
@[simp] theorem State.setCb_l (v : Byte) : (s.setCb v).l = s.l := rfl
@[simp] theorem State.setCb_h (v : Byte) : (s.setCb v).h = s.h := rfl
@[simp] theorem State.setCb_br (v : Byte) : (s.setCb v).br = s.br := rfl
@[simp] theorem State.setCb_sc (v : Byte) : (s.setCb v).sc = s.sc := rfl
@[simp] theorem State.setCb_nb (v : Byte) : (s.setCb v).nb = s.nb := rfl
@[simp] theorem State.setCb_cb (v : Byte) : (s.setCb v).cb = v := rfl
@[simp] theorem State.setCb_ep (v : Byte) : (s.setCb v).ep = s.ep := rfl
@[simp] theorem State.setCb_xp (v : Byte) : (s.setCb v).xp = s.xp := rfl
@[simp] theorem State.setCb_yp (v : Byte) : (s.setCb v).yp = s.yp := rfl
@[simp] theorem State.setCb_ix (v : Byte) : (s.setCb v).ix = s.ix := rfl
@[simp] theorem State.setCb_iy (v : Byte) : (s.setCb v).iy = s.iy := rfl
@[simp] theorem State.setCb_sp (v : Byte) : (s.setCb v).sp = s.sp := rfl
@[simp] theorem State.setCb_pc (v : Byte) : (s.setCb v).pc = s.pc := rfl
@[simp] theorem State.setCb_status (v : Byte) : (s.setCb v).status = s.status := rfl
@[simp] theorem State.setCb_nmiPending (v : Byte) : (s.setCb v).nmiPending = s.nmiPending := rfl
@[simp] theorem State.setCb_zdivPending (v : Byte) : (s.setCb v).zdivPending = s.zdivPending := rfl
@[simp] theorem State.setCb_intHoldoff (v : Byte) : (s.setCb v).intHoldoff = s.intHoldoff := rfl
@[simp] theorem State.setCb_iackLow (v : Byte) : (s.setCb v).iackLow = s.iackLow := rfl
@[simp] theorem State.setCb_mem (v : Byte) : (s.setCb v).mem = s.mem := rfl
@[simp] theorem State.setCb_cfg (v : Byte) : (s.setCb v).cfg = s.cfg := rfl
@[simp] theorem State.setCb_pins (v : Byte) : (s.setCb v).pins = s.pins := rfl
@[simp] theorem State.setCb_schedule (v : Byte) : (s.setCb v).schedule = s.schedule := rfl
@[simp] theorem State.setCb_bus (v : Byte) : (s.setCb v).bus = s.bus := rfl
@[simp] theorem State.setCb_trace (v : Byte) : (s.setCb v).trace = s.trace := rfl
@[simp] theorem State.setCb_freeCount (v : Byte) : (s.setCb v).freeCount = s.freeCount := rfl

@[simp] theorem State.setNmiPending_a (v : Bool) : (s.setNmiPending v).a = s.a := rfl
@[simp] theorem State.setNmiPending_b (v : Bool) : (s.setNmiPending v).b = s.b := rfl
@[simp] theorem State.setNmiPending_l (v : Bool) : (s.setNmiPending v).l = s.l := rfl
@[simp] theorem State.setNmiPending_h (v : Bool) : (s.setNmiPending v).h = s.h := rfl
@[simp] theorem State.setNmiPending_br (v : Bool) : (s.setNmiPending v).br = s.br := rfl
@[simp] theorem State.setNmiPending_sc (v : Bool) : (s.setNmiPending v).sc = s.sc := rfl
@[simp] theorem State.setNmiPending_nb (v : Bool) : (s.setNmiPending v).nb = s.nb := rfl
@[simp] theorem State.setNmiPending_cb (v : Bool) : (s.setNmiPending v).cb = s.cb := rfl
@[simp] theorem State.setNmiPending_ep (v : Bool) : (s.setNmiPending v).ep = s.ep := rfl
@[simp] theorem State.setNmiPending_xp (v : Bool) : (s.setNmiPending v).xp = s.xp := rfl
@[simp] theorem State.setNmiPending_yp (v : Bool) : (s.setNmiPending v).yp = s.yp := rfl
@[simp] theorem State.setNmiPending_ix (v : Bool) : (s.setNmiPending v).ix = s.ix := rfl
@[simp] theorem State.setNmiPending_iy (v : Bool) : (s.setNmiPending v).iy = s.iy := rfl
@[simp] theorem State.setNmiPending_sp (v : Bool) : (s.setNmiPending v).sp = s.sp := rfl
@[simp] theorem State.setNmiPending_pc (v : Bool) : (s.setNmiPending v).pc = s.pc := rfl
@[simp] theorem State.setNmiPending_status (v : Bool) : (s.setNmiPending v).status = s.status := rfl
@[simp] theorem State.setNmiPending_nmiPending (v : Bool) : (s.setNmiPending v).nmiPending = v := rfl
@[simp] theorem State.setNmiPending_zdivPending (v : Bool) : (s.setNmiPending v).zdivPending = s.zdivPending := rfl
@[simp] theorem State.setNmiPending_intHoldoff (v : Bool) : (s.setNmiPending v).intHoldoff = s.intHoldoff := rfl
@[simp] theorem State.setNmiPending_iackLow (v : Bool) : (s.setNmiPending v).iackLow = s.iackLow := rfl
@[simp] theorem State.setNmiPending_mem (v : Bool) : (s.setNmiPending v).mem = s.mem := rfl
@[simp] theorem State.setNmiPending_cfg (v : Bool) : (s.setNmiPending v).cfg = s.cfg := rfl
@[simp] theorem State.setNmiPending_pins (v : Bool) : (s.setNmiPending v).pins = s.pins := rfl
@[simp] theorem State.setNmiPending_schedule (v : Bool) : (s.setNmiPending v).schedule = s.schedule := rfl
@[simp] theorem State.setNmiPending_bus (v : Bool) : (s.setNmiPending v).bus = s.bus := rfl
@[simp] theorem State.setNmiPending_trace (v : Bool) : (s.setNmiPending v).trace = s.trace := rfl
@[simp] theorem State.setNmiPending_freeCount (v : Bool) : (s.setNmiPending v).freeCount = s.freeCount := rfl

@[simp] theorem State.setZdivPending_a (v : Bool) : (s.setZdivPending v).a = s.a := rfl
@[simp] theorem State.setZdivPending_b (v : Bool) : (s.setZdivPending v).b = s.b := rfl
@[simp] theorem State.setZdivPending_l (v : Bool) : (s.setZdivPending v).l = s.l := rfl
@[simp] theorem State.setZdivPending_h (v : Bool) : (s.setZdivPending v).h = s.h := rfl
@[simp] theorem State.setZdivPending_br (v : Bool) : (s.setZdivPending v).br = s.br := rfl
@[simp] theorem State.setZdivPending_sc (v : Bool) : (s.setZdivPending v).sc = s.sc := rfl
@[simp] theorem State.setZdivPending_nb (v : Bool) : (s.setZdivPending v).nb = s.nb := rfl
@[simp] theorem State.setZdivPending_cb (v : Bool) : (s.setZdivPending v).cb = s.cb := rfl
@[simp] theorem State.setZdivPending_ep (v : Bool) : (s.setZdivPending v).ep = s.ep := rfl
@[simp] theorem State.setZdivPending_xp (v : Bool) : (s.setZdivPending v).xp = s.xp := rfl
@[simp] theorem State.setZdivPending_yp (v : Bool) : (s.setZdivPending v).yp = s.yp := rfl
@[simp] theorem State.setZdivPending_ix (v : Bool) : (s.setZdivPending v).ix = s.ix := rfl
@[simp] theorem State.setZdivPending_iy (v : Bool) : (s.setZdivPending v).iy = s.iy := rfl
@[simp] theorem State.setZdivPending_sp (v : Bool) : (s.setZdivPending v).sp = s.sp := rfl
@[simp] theorem State.setZdivPending_pc (v : Bool) : (s.setZdivPending v).pc = s.pc := rfl
@[simp] theorem State.setZdivPending_status (v : Bool) : (s.setZdivPending v).status = s.status := rfl
@[simp] theorem State.setZdivPending_nmiPending (v : Bool) : (s.setZdivPending v).nmiPending = s.nmiPending := rfl
@[simp] theorem State.setZdivPending_zdivPending (v : Bool) : (s.setZdivPending v).zdivPending = v := rfl
@[simp] theorem State.setZdivPending_intHoldoff (v : Bool) : (s.setZdivPending v).intHoldoff = s.intHoldoff := rfl
@[simp] theorem State.setZdivPending_iackLow (v : Bool) : (s.setZdivPending v).iackLow = s.iackLow := rfl
@[simp] theorem State.setZdivPending_mem (v : Bool) : (s.setZdivPending v).mem = s.mem := rfl
@[simp] theorem State.setZdivPending_cfg (v : Bool) : (s.setZdivPending v).cfg = s.cfg := rfl
@[simp] theorem State.setZdivPending_pins (v : Bool) : (s.setZdivPending v).pins = s.pins := rfl
@[simp] theorem State.setZdivPending_schedule (v : Bool) : (s.setZdivPending v).schedule = s.schedule := rfl
@[simp] theorem State.setZdivPending_bus (v : Bool) : (s.setZdivPending v).bus = s.bus := rfl
@[simp] theorem State.setZdivPending_trace (v : Bool) : (s.setZdivPending v).trace = s.trace := rfl
@[simp] theorem State.setZdivPending_freeCount (v : Bool) : (s.setZdivPending v).freeCount = s.freeCount := rfl

@[simp] theorem State.setIntHoldoff_a (v : Bool) : (s.setIntHoldoff v).a = s.a := rfl
@[simp] theorem State.setIntHoldoff_b (v : Bool) : (s.setIntHoldoff v).b = s.b := rfl
@[simp] theorem State.setIntHoldoff_l (v : Bool) : (s.setIntHoldoff v).l = s.l := rfl
@[simp] theorem State.setIntHoldoff_h (v : Bool) : (s.setIntHoldoff v).h = s.h := rfl
@[simp] theorem State.setIntHoldoff_br (v : Bool) : (s.setIntHoldoff v).br = s.br := rfl
@[simp] theorem State.setIntHoldoff_sc (v : Bool) : (s.setIntHoldoff v).sc = s.sc := rfl
@[simp] theorem State.setIntHoldoff_nb (v : Bool) : (s.setIntHoldoff v).nb = s.nb := rfl
@[simp] theorem State.setIntHoldoff_cb (v : Bool) : (s.setIntHoldoff v).cb = s.cb := rfl
@[simp] theorem State.setIntHoldoff_ep (v : Bool) : (s.setIntHoldoff v).ep = s.ep := rfl
@[simp] theorem State.setIntHoldoff_xp (v : Bool) : (s.setIntHoldoff v).xp = s.xp := rfl
@[simp] theorem State.setIntHoldoff_yp (v : Bool) : (s.setIntHoldoff v).yp = s.yp := rfl
@[simp] theorem State.setIntHoldoff_ix (v : Bool) : (s.setIntHoldoff v).ix = s.ix := rfl
@[simp] theorem State.setIntHoldoff_iy (v : Bool) : (s.setIntHoldoff v).iy = s.iy := rfl
@[simp] theorem State.setIntHoldoff_sp (v : Bool) : (s.setIntHoldoff v).sp = s.sp := rfl
@[simp] theorem State.setIntHoldoff_pc (v : Bool) : (s.setIntHoldoff v).pc = s.pc := rfl
@[simp] theorem State.setIntHoldoff_status (v : Bool) : (s.setIntHoldoff v).status = s.status := rfl
@[simp] theorem State.setIntHoldoff_nmiPending (v : Bool) : (s.setIntHoldoff v).nmiPending = s.nmiPending := rfl
@[simp] theorem State.setIntHoldoff_zdivPending (v : Bool) : (s.setIntHoldoff v).zdivPending = s.zdivPending := rfl
@[simp] theorem State.setIntHoldoff_intHoldoff (v : Bool) : (s.setIntHoldoff v).intHoldoff = v := rfl
@[simp] theorem State.setIntHoldoff_iackLow (v : Bool) : (s.setIntHoldoff v).iackLow = s.iackLow := rfl
@[simp] theorem State.setIntHoldoff_mem (v : Bool) : (s.setIntHoldoff v).mem = s.mem := rfl
@[simp] theorem State.setIntHoldoff_cfg (v : Bool) : (s.setIntHoldoff v).cfg = s.cfg := rfl
@[simp] theorem State.setIntHoldoff_pins (v : Bool) : (s.setIntHoldoff v).pins = s.pins := rfl
@[simp] theorem State.setIntHoldoff_schedule (v : Bool) : (s.setIntHoldoff v).schedule = s.schedule := rfl
@[simp] theorem State.setIntHoldoff_bus (v : Bool) : (s.setIntHoldoff v).bus = s.bus := rfl
@[simp] theorem State.setIntHoldoff_trace (v : Bool) : (s.setIntHoldoff v).trace = s.trace := rfl
@[simp] theorem State.setIntHoldoff_freeCount (v : Bool) : (s.setIntHoldoff v).freeCount = s.freeCount := rfl

@[simp] theorem State.setIackLow_a (v : Bool) : (s.setIackLow v).a = s.a := rfl
@[simp] theorem State.setIackLow_b (v : Bool) : (s.setIackLow v).b = s.b := rfl
@[simp] theorem State.setIackLow_l (v : Bool) : (s.setIackLow v).l = s.l := rfl
@[simp] theorem State.setIackLow_h (v : Bool) : (s.setIackLow v).h = s.h := rfl
@[simp] theorem State.setIackLow_br (v : Bool) : (s.setIackLow v).br = s.br := rfl
@[simp] theorem State.setIackLow_sc (v : Bool) : (s.setIackLow v).sc = s.sc := rfl
@[simp] theorem State.setIackLow_nb (v : Bool) : (s.setIackLow v).nb = s.nb := rfl
@[simp] theorem State.setIackLow_cb (v : Bool) : (s.setIackLow v).cb = s.cb := rfl
@[simp] theorem State.setIackLow_ep (v : Bool) : (s.setIackLow v).ep = s.ep := rfl
@[simp] theorem State.setIackLow_xp (v : Bool) : (s.setIackLow v).xp = s.xp := rfl
@[simp] theorem State.setIackLow_yp (v : Bool) : (s.setIackLow v).yp = s.yp := rfl
@[simp] theorem State.setIackLow_ix (v : Bool) : (s.setIackLow v).ix = s.ix := rfl
@[simp] theorem State.setIackLow_iy (v : Bool) : (s.setIackLow v).iy = s.iy := rfl
@[simp] theorem State.setIackLow_sp (v : Bool) : (s.setIackLow v).sp = s.sp := rfl
@[simp] theorem State.setIackLow_pc (v : Bool) : (s.setIackLow v).pc = s.pc := rfl
@[simp] theorem State.setIackLow_status (v : Bool) : (s.setIackLow v).status = s.status := rfl
@[simp] theorem State.setIackLow_nmiPending (v : Bool) : (s.setIackLow v).nmiPending = s.nmiPending := rfl
@[simp] theorem State.setIackLow_zdivPending (v : Bool) : (s.setIackLow v).zdivPending = s.zdivPending := rfl
@[simp] theorem State.setIackLow_intHoldoff (v : Bool) : (s.setIackLow v).intHoldoff = s.intHoldoff := rfl
@[simp] theorem State.setIackLow_iackLow (v : Bool) : (s.setIackLow v).iackLow = v := rfl
@[simp] theorem State.setIackLow_mem (v : Bool) : (s.setIackLow v).mem = s.mem := rfl
@[simp] theorem State.setIackLow_cfg (v : Bool) : (s.setIackLow v).cfg = s.cfg := rfl
@[simp] theorem State.setIackLow_pins (v : Bool) : (s.setIackLow v).pins = s.pins := rfl
@[simp] theorem State.setIackLow_schedule (v : Bool) : (s.setIackLow v).schedule = s.schedule := rfl
@[simp] theorem State.setIackLow_bus (v : Bool) : (s.setIackLow v).bus = s.bus := rfl
@[simp] theorem State.setIackLow_trace (v : Bool) : (s.setIackLow v).trace = s.trace := rfl
@[simp] theorem State.setIackLow_freeCount (v : Bool) : (s.setIackLow v).freeCount = s.freeCount := rfl

@[simp] theorem State.setPins_a (v : Pins) : (s.setPins v).a = s.a := rfl
@[simp] theorem State.setPins_b (v : Pins) : (s.setPins v).b = s.b := rfl
@[simp] theorem State.setPins_l (v : Pins) : (s.setPins v).l = s.l := rfl
@[simp] theorem State.setPins_h (v : Pins) : (s.setPins v).h = s.h := rfl
@[simp] theorem State.setPins_br (v : Pins) : (s.setPins v).br = s.br := rfl
@[simp] theorem State.setPins_sc (v : Pins) : (s.setPins v).sc = s.sc := rfl
@[simp] theorem State.setPins_nb (v : Pins) : (s.setPins v).nb = s.nb := rfl
@[simp] theorem State.setPins_cb (v : Pins) : (s.setPins v).cb = s.cb := rfl
@[simp] theorem State.setPins_ep (v : Pins) : (s.setPins v).ep = s.ep := rfl
@[simp] theorem State.setPins_xp (v : Pins) : (s.setPins v).xp = s.xp := rfl
@[simp] theorem State.setPins_yp (v : Pins) : (s.setPins v).yp = s.yp := rfl
@[simp] theorem State.setPins_ix (v : Pins) : (s.setPins v).ix = s.ix := rfl
@[simp] theorem State.setPins_iy (v : Pins) : (s.setPins v).iy = s.iy := rfl
@[simp] theorem State.setPins_sp (v : Pins) : (s.setPins v).sp = s.sp := rfl
@[simp] theorem State.setPins_pc (v : Pins) : (s.setPins v).pc = s.pc := rfl
@[simp] theorem State.setPins_status (v : Pins) : (s.setPins v).status = s.status := rfl
@[simp] theorem State.setPins_nmiPending (v : Pins) : (s.setPins v).nmiPending = s.nmiPending := rfl
@[simp] theorem State.setPins_zdivPending (v : Pins) : (s.setPins v).zdivPending = s.zdivPending := rfl
@[simp] theorem State.setPins_intHoldoff (v : Pins) : (s.setPins v).intHoldoff = s.intHoldoff := rfl
@[simp] theorem State.setPins_iackLow (v : Pins) : (s.setPins v).iackLow = s.iackLow := rfl
@[simp] theorem State.setPins_mem (v : Pins) : (s.setPins v).mem = s.mem := rfl
@[simp] theorem State.setPins_cfg (v : Pins) : (s.setPins v).cfg = s.cfg := rfl
@[simp] theorem State.setPins_pins (v : Pins) : (s.setPins v).pins = v := rfl
@[simp] theorem State.setPins_schedule (v : Pins) : (s.setPins v).schedule = s.schedule := rfl
@[simp] theorem State.setPins_bus (v : Pins) : (s.setPins v).bus = s.bus := rfl
@[simp] theorem State.setPins_trace (v : Pins) : (s.setPins v).trace = s.trace := rfl
@[simp] theorem State.setPins_freeCount (v : Pins) : (s.setPins v).freeCount = s.freeCount := rfl

@[simp] theorem State.setSchedule_a (v : List Pins) : (s.setSchedule v).a = s.a := rfl
@[simp] theorem State.setSchedule_b (v : List Pins) : (s.setSchedule v).b = s.b := rfl
@[simp] theorem State.setSchedule_l (v : List Pins) : (s.setSchedule v).l = s.l := rfl
@[simp] theorem State.setSchedule_h (v : List Pins) : (s.setSchedule v).h = s.h := rfl
@[simp] theorem State.setSchedule_br (v : List Pins) : (s.setSchedule v).br = s.br := rfl
@[simp] theorem State.setSchedule_sc (v : List Pins) : (s.setSchedule v).sc = s.sc := rfl
@[simp] theorem State.setSchedule_nb (v : List Pins) : (s.setSchedule v).nb = s.nb := rfl
@[simp] theorem State.setSchedule_cb (v : List Pins) : (s.setSchedule v).cb = s.cb := rfl
@[simp] theorem State.setSchedule_ep (v : List Pins) : (s.setSchedule v).ep = s.ep := rfl
@[simp] theorem State.setSchedule_xp (v : List Pins) : (s.setSchedule v).xp = s.xp := rfl
@[simp] theorem State.setSchedule_yp (v : List Pins) : (s.setSchedule v).yp = s.yp := rfl
@[simp] theorem State.setSchedule_ix (v : List Pins) : (s.setSchedule v).ix = s.ix := rfl
@[simp] theorem State.setSchedule_iy (v : List Pins) : (s.setSchedule v).iy = s.iy := rfl
@[simp] theorem State.setSchedule_sp (v : List Pins) : (s.setSchedule v).sp = s.sp := rfl
@[simp] theorem State.setSchedule_pc (v : List Pins) : (s.setSchedule v).pc = s.pc := rfl
@[simp] theorem State.setSchedule_status (v : List Pins) : (s.setSchedule v).status = s.status := rfl
@[simp] theorem State.setSchedule_nmiPending (v : List Pins) : (s.setSchedule v).nmiPending = s.nmiPending := rfl
@[simp] theorem State.setSchedule_zdivPending (v : List Pins) : (s.setSchedule v).zdivPending = s.zdivPending := rfl
@[simp] theorem State.setSchedule_intHoldoff (v : List Pins) : (s.setSchedule v).intHoldoff = s.intHoldoff := rfl
@[simp] theorem State.setSchedule_iackLow (v : List Pins) : (s.setSchedule v).iackLow = s.iackLow := rfl
@[simp] theorem State.setSchedule_mem (v : List Pins) : (s.setSchedule v).mem = s.mem := rfl
@[simp] theorem State.setSchedule_cfg (v : List Pins) : (s.setSchedule v).cfg = s.cfg := rfl
@[simp] theorem State.setSchedule_pins (v : List Pins) : (s.setSchedule v).pins = s.pins := rfl
@[simp] theorem State.setSchedule_schedule (v : List Pins) : (s.setSchedule v).schedule = v := rfl
@[simp] theorem State.setSchedule_bus (v : List Pins) : (s.setSchedule v).bus = s.bus := rfl
@[simp] theorem State.setSchedule_trace (v : List Pins) : (s.setSchedule v).trace = s.trace := rfl
@[simp] theorem State.setSchedule_freeCount (v : List Pins) : (s.setSchedule v).freeCount = s.freeCount := rfl

@[simp] theorem State.setBus_a (v : List BusCycle) : (s.setBus v).a = s.a := rfl
@[simp] theorem State.setBus_b (v : List BusCycle) : (s.setBus v).b = s.b := rfl
@[simp] theorem State.setBus_l (v : List BusCycle) : (s.setBus v).l = s.l := rfl
@[simp] theorem State.setBus_h (v : List BusCycle) : (s.setBus v).h = s.h := rfl
@[simp] theorem State.setBus_br (v : List BusCycle) : (s.setBus v).br = s.br := rfl
@[simp] theorem State.setBus_sc (v : List BusCycle) : (s.setBus v).sc = s.sc := rfl
@[simp] theorem State.setBus_nb (v : List BusCycle) : (s.setBus v).nb = s.nb := rfl
@[simp] theorem State.setBus_cb (v : List BusCycle) : (s.setBus v).cb = s.cb := rfl
@[simp] theorem State.setBus_ep (v : List BusCycle) : (s.setBus v).ep = s.ep := rfl
@[simp] theorem State.setBus_xp (v : List BusCycle) : (s.setBus v).xp = s.xp := rfl
@[simp] theorem State.setBus_yp (v : List BusCycle) : (s.setBus v).yp = s.yp := rfl
@[simp] theorem State.setBus_ix (v : List BusCycle) : (s.setBus v).ix = s.ix := rfl
@[simp] theorem State.setBus_iy (v : List BusCycle) : (s.setBus v).iy = s.iy := rfl
@[simp] theorem State.setBus_sp (v : List BusCycle) : (s.setBus v).sp = s.sp := rfl
@[simp] theorem State.setBus_pc (v : List BusCycle) : (s.setBus v).pc = s.pc := rfl
@[simp] theorem State.setBus_status (v : List BusCycle) : (s.setBus v).status = s.status := rfl
@[simp] theorem State.setBus_nmiPending (v : List BusCycle) : (s.setBus v).nmiPending = s.nmiPending := rfl
@[simp] theorem State.setBus_zdivPending (v : List BusCycle) : (s.setBus v).zdivPending = s.zdivPending := rfl
@[simp] theorem State.setBus_intHoldoff (v : List BusCycle) : (s.setBus v).intHoldoff = s.intHoldoff := rfl
@[simp] theorem State.setBus_iackLow (v : List BusCycle) : (s.setBus v).iackLow = s.iackLow := rfl
@[simp] theorem State.setBus_mem (v : List BusCycle) : (s.setBus v).mem = s.mem := rfl
@[simp] theorem State.setBus_cfg (v : List BusCycle) : (s.setBus v).cfg = s.cfg := rfl
@[simp] theorem State.setBus_pins (v : List BusCycle) : (s.setBus v).pins = s.pins := rfl
@[simp] theorem State.setBus_schedule (v : List BusCycle) : (s.setBus v).schedule = s.schedule := rfl
@[simp] theorem State.setBus_bus (v : List BusCycle) : (s.setBus v).bus = v := rfl
@[simp] theorem State.setBus_trace (v : List BusCycle) : (s.setBus v).trace = s.trace := rfl
@[simp] theorem State.setBus_freeCount (v : List BusCycle) : (s.setBus v).freeCount = s.freeCount := rfl

@[simp] theorem State.setTrace_a (v : List BusEvent) : (s.setTrace v).a = s.a := rfl
@[simp] theorem State.setTrace_b (v : List BusEvent) : (s.setTrace v).b = s.b := rfl
@[simp] theorem State.setTrace_l (v : List BusEvent) : (s.setTrace v).l = s.l := rfl
@[simp] theorem State.setTrace_h (v : List BusEvent) : (s.setTrace v).h = s.h := rfl
@[simp] theorem State.setTrace_br (v : List BusEvent) : (s.setTrace v).br = s.br := rfl
@[simp] theorem State.setTrace_sc (v : List BusEvent) : (s.setTrace v).sc = s.sc := rfl
@[simp] theorem State.setTrace_nb (v : List BusEvent) : (s.setTrace v).nb = s.nb := rfl
@[simp] theorem State.setTrace_cb (v : List BusEvent) : (s.setTrace v).cb = s.cb := rfl
@[simp] theorem State.setTrace_ep (v : List BusEvent) : (s.setTrace v).ep = s.ep := rfl
@[simp] theorem State.setTrace_xp (v : List BusEvent) : (s.setTrace v).xp = s.xp := rfl
@[simp] theorem State.setTrace_yp (v : List BusEvent) : (s.setTrace v).yp = s.yp := rfl
@[simp] theorem State.setTrace_ix (v : List BusEvent) : (s.setTrace v).ix = s.ix := rfl
@[simp] theorem State.setTrace_iy (v : List BusEvent) : (s.setTrace v).iy = s.iy := rfl
@[simp] theorem State.setTrace_sp (v : List BusEvent) : (s.setTrace v).sp = s.sp := rfl
@[simp] theorem State.setTrace_pc (v : List BusEvent) : (s.setTrace v).pc = s.pc := rfl
@[simp] theorem State.setTrace_status (v : List BusEvent) : (s.setTrace v).status = s.status := rfl
@[simp] theorem State.setTrace_nmiPending (v : List BusEvent) : (s.setTrace v).nmiPending = s.nmiPending := rfl
@[simp] theorem State.setTrace_zdivPending (v : List BusEvent) : (s.setTrace v).zdivPending = s.zdivPending := rfl
@[simp] theorem State.setTrace_intHoldoff (v : List BusEvent) : (s.setTrace v).intHoldoff = s.intHoldoff := rfl
@[simp] theorem State.setTrace_iackLow (v : List BusEvent) : (s.setTrace v).iackLow = s.iackLow := rfl
@[simp] theorem State.setTrace_mem (v : List BusEvent) : (s.setTrace v).mem = s.mem := rfl
@[simp] theorem State.setTrace_cfg (v : List BusEvent) : (s.setTrace v).cfg = s.cfg := rfl
@[simp] theorem State.setTrace_pins (v : List BusEvent) : (s.setTrace v).pins = s.pins := rfl
@[simp] theorem State.setTrace_schedule (v : List BusEvent) : (s.setTrace v).schedule = s.schedule := rfl
@[simp] theorem State.setTrace_bus (v : List BusEvent) : (s.setTrace v).bus = s.bus := rfl
@[simp] theorem State.setTrace_trace (v : List BusEvent) : (s.setTrace v).trace = v := rfl
@[simp] theorem State.setTrace_freeCount (v : List BusEvent) : (s.setTrace v).freeCount = s.freeCount := rfl

@[simp] theorem State.setFreeCount_a (v : Nat) : (s.setFreeCount v).a = s.a := rfl
@[simp] theorem State.setFreeCount_b (v : Nat) : (s.setFreeCount v).b = s.b := rfl
@[simp] theorem State.setFreeCount_l (v : Nat) : (s.setFreeCount v).l = s.l := rfl
@[simp] theorem State.setFreeCount_h (v : Nat) : (s.setFreeCount v).h = s.h := rfl
@[simp] theorem State.setFreeCount_br (v : Nat) : (s.setFreeCount v).br = s.br := rfl
@[simp] theorem State.setFreeCount_sc (v : Nat) : (s.setFreeCount v).sc = s.sc := rfl
@[simp] theorem State.setFreeCount_nb (v : Nat) : (s.setFreeCount v).nb = s.nb := rfl
@[simp] theorem State.setFreeCount_cb (v : Nat) : (s.setFreeCount v).cb = s.cb := rfl
@[simp] theorem State.setFreeCount_ep (v : Nat) : (s.setFreeCount v).ep = s.ep := rfl
@[simp] theorem State.setFreeCount_xp (v : Nat) : (s.setFreeCount v).xp = s.xp := rfl
@[simp] theorem State.setFreeCount_yp (v : Nat) : (s.setFreeCount v).yp = s.yp := rfl
@[simp] theorem State.setFreeCount_ix (v : Nat) : (s.setFreeCount v).ix = s.ix := rfl
@[simp] theorem State.setFreeCount_iy (v : Nat) : (s.setFreeCount v).iy = s.iy := rfl
@[simp] theorem State.setFreeCount_sp (v : Nat) : (s.setFreeCount v).sp = s.sp := rfl
@[simp] theorem State.setFreeCount_pc (v : Nat) : (s.setFreeCount v).pc = s.pc := rfl
@[simp] theorem State.setFreeCount_status (v : Nat) : (s.setFreeCount v).status = s.status := rfl
@[simp] theorem State.setFreeCount_nmiPending (v : Nat) : (s.setFreeCount v).nmiPending = s.nmiPending := rfl
@[simp] theorem State.setFreeCount_zdivPending (v : Nat) : (s.setFreeCount v).zdivPending = s.zdivPending := rfl
@[simp] theorem State.setFreeCount_intHoldoff (v : Nat) : (s.setFreeCount v).intHoldoff = s.intHoldoff := rfl
@[simp] theorem State.setFreeCount_iackLow (v : Nat) : (s.setFreeCount v).iackLow = s.iackLow := rfl
@[simp] theorem State.setFreeCount_mem (v : Nat) : (s.setFreeCount v).mem = s.mem := rfl
@[simp] theorem State.setFreeCount_cfg (v : Nat) : (s.setFreeCount v).cfg = s.cfg := rfl
@[simp] theorem State.setFreeCount_pins (v : Nat) : (s.setFreeCount v).pins = s.pins := rfl
@[simp] theorem State.setFreeCount_schedule (v : Nat) : (s.setFreeCount v).schedule = s.schedule := rfl
@[simp] theorem State.setFreeCount_bus (v : Nat) : (s.setFreeCount v).bus = s.bus := rfl
@[simp] theorem State.setFreeCount_trace (v : Nat) : (s.setFreeCount v).trace = s.trace := rfl
@[simp] theorem State.setFreeCount_freeCount (v : Nat) : (s.setFreeCount v).freeCount = v := rfl

@[simp] theorem State.setSc_a (v : Byte) : (s.setSc v).a = s.a := rfl
@[simp] theorem State.setSc_b (v : Byte) : (s.setSc v).b = s.b := rfl
@[simp] theorem State.setSc_l (v : Byte) : (s.setSc v).l = s.l := rfl
@[simp] theorem State.setSc_h (v : Byte) : (s.setSc v).h = s.h := rfl
@[simp] theorem State.setSc_br (v : Byte) : (s.setSc v).br = s.br := rfl
@[simp] theorem State.setSc_sc (v : Byte) : (s.setSc v).sc = v := rfl
@[simp] theorem State.setSc_nb (v : Byte) : (s.setSc v).nb = s.nb := rfl
@[simp] theorem State.setSc_cb (v : Byte) : (s.setSc v).cb = s.cb := rfl
@[simp] theorem State.setSc_ep (v : Byte) : (s.setSc v).ep = s.ep := rfl
@[simp] theorem State.setSc_xp (v : Byte) : (s.setSc v).xp = s.xp := rfl
@[simp] theorem State.setSc_yp (v : Byte) : (s.setSc v).yp = s.yp := rfl
@[simp] theorem State.setSc_ix (v : Byte) : (s.setSc v).ix = s.ix := rfl
@[simp] theorem State.setSc_iy (v : Byte) : (s.setSc v).iy = s.iy := rfl
@[simp] theorem State.setSc_sp (v : Byte) : (s.setSc v).sp = s.sp := rfl
@[simp] theorem State.setSc_pc (v : Byte) : (s.setSc v).pc = s.pc := rfl
@[simp] theorem State.setSc_status (v : Byte) : (s.setSc v).status = s.status := rfl
@[simp] theorem State.setSc_nmiPending (v : Byte) : (s.setSc v).nmiPending = s.nmiPending := rfl
@[simp] theorem State.setSc_zdivPending (v : Byte) : (s.setSc v).zdivPending = s.zdivPending := rfl
@[simp] theorem State.setSc_intHoldoff (v : Byte) : (s.setSc v).intHoldoff = s.intHoldoff := rfl
@[simp] theorem State.setSc_iackLow (v : Byte) : (s.setSc v).iackLow = s.iackLow := rfl
@[simp] theorem State.setSc_mem (v : Byte) : (s.setSc v).mem = s.mem := rfl
@[simp] theorem State.setSc_cfg (v : Byte) : (s.setSc v).cfg = s.cfg := rfl
@[simp] theorem State.setSc_pins (v : Byte) : (s.setSc v).pins = s.pins := rfl
@[simp] theorem State.setSc_schedule (v : Byte) : (s.setSc v).schedule = s.schedule := rfl
@[simp] theorem State.setSc_bus (v : Byte) : (s.setSc v).bus = s.bus := rfl
@[simp] theorem State.setSc_trace (v : Byte) : (s.setSc v).trace = s.trace := rfl
@[simp] theorem State.setSc_freeCount (v : Byte) : (s.setSc v).freeCount = s.freeCount := rfl

@[simp] theorem State.record_a (e : BusEvent) : (s.record e).a = s.a := rfl
@[simp] theorem State.record_b (e : BusEvent) : (s.record e).b = s.b := rfl
@[simp] theorem State.record_l (e : BusEvent) : (s.record e).l = s.l := rfl
@[simp] theorem State.record_h (e : BusEvent) : (s.record e).h = s.h := rfl
@[simp] theorem State.record_br (e : BusEvent) : (s.record e).br = s.br := rfl
@[simp] theorem State.record_sc (e : BusEvent) : (s.record e).sc = s.sc := rfl
@[simp] theorem State.record_nb (e : BusEvent) : (s.record e).nb = s.nb := rfl
@[simp] theorem State.record_cb (e : BusEvent) : (s.record e).cb = s.cb := rfl
@[simp] theorem State.record_ep (e : BusEvent) : (s.record e).ep = s.ep := rfl
@[simp] theorem State.record_xp (e : BusEvent) : (s.record e).xp = s.xp := rfl
@[simp] theorem State.record_yp (e : BusEvent) : (s.record e).yp = s.yp := rfl
@[simp] theorem State.record_ix (e : BusEvent) : (s.record e).ix = s.ix := rfl
@[simp] theorem State.record_iy (e : BusEvent) : (s.record e).iy = s.iy := rfl
@[simp] theorem State.record_sp (e : BusEvent) : (s.record e).sp = s.sp := rfl
@[simp] theorem State.record_pc (e : BusEvent) : (s.record e).pc = s.pc := rfl
@[simp] theorem State.record_status (e : BusEvent) : (s.record e).status = s.status := rfl
@[simp] theorem State.record_nmiPending (e : BusEvent) : (s.record e).nmiPending = s.nmiPending := rfl
@[simp] theorem State.record_zdivPending (e : BusEvent) : (s.record e).zdivPending = s.zdivPending := rfl
@[simp] theorem State.record_intHoldoff (e : BusEvent) : (s.record e).intHoldoff = s.intHoldoff := rfl
@[simp] theorem State.record_iackLow (e : BusEvent) : (s.record e).iackLow = s.iackLow := rfl
@[simp] theorem State.record_mem (e : BusEvent) : (s.record e).mem = s.mem := rfl
@[simp] theorem State.record_cfg (e : BusEvent) : (s.record e).cfg = s.cfg := rfl
@[simp] theorem State.record_pins (e : BusEvent) : (s.record e).pins = s.pins := rfl
@[simp] theorem State.record_schedule (e : BusEvent) : (s.record e).schedule = s.schedule := rfl
@[simp] theorem State.record_bus (e : BusEvent) : (s.record e).bus = s.bus := rfl
@[simp] theorem State.record_trace (e : BusEvent) : (s.record e).trace = e :: s.trace := rfl
@[simp] theorem State.record_freeCount (e : BusEvent) : (s.record e).freeCount = s.freeCount := rfl

@[simp] theorem State.hold_a (a : Addr) (v : Byte) : (s.hold a v).a = s.a := by unfold State.hold; split <;> rfl
@[simp] theorem State.hold_b (a : Addr) (v : Byte) : (s.hold a v).b = s.b := by unfold State.hold; split <;> rfl
@[simp] theorem State.hold_l (a : Addr) (v : Byte) : (s.hold a v).l = s.l := by unfold State.hold; split <;> rfl
@[simp] theorem State.hold_h (a : Addr) (v : Byte) : (s.hold a v).h = s.h := by unfold State.hold; split <;> rfl
@[simp] theorem State.hold_br (a : Addr) (v : Byte) : (s.hold a v).br = s.br := by unfold State.hold; split <;> rfl
@[simp] theorem State.hold_sc (a : Addr) (v : Byte) : (s.hold a v).sc = s.sc := by unfold State.hold; split <;> rfl
@[simp] theorem State.hold_nb (a : Addr) (v : Byte) : (s.hold a v).nb = s.nb := by unfold State.hold; split <;> rfl
@[simp] theorem State.hold_cb (a : Addr) (v : Byte) : (s.hold a v).cb = s.cb := by unfold State.hold; split <;> rfl
@[simp] theorem State.hold_ep (a : Addr) (v : Byte) : (s.hold a v).ep = s.ep := by unfold State.hold; split <;> rfl
@[simp] theorem State.hold_xp (a : Addr) (v : Byte) : (s.hold a v).xp = s.xp := by unfold State.hold; split <;> rfl
@[simp] theorem State.hold_yp (a : Addr) (v : Byte) : (s.hold a v).yp = s.yp := by unfold State.hold; split <;> rfl
@[simp] theorem State.hold_ix (a : Addr) (v : Byte) : (s.hold a v).ix = s.ix := by unfold State.hold; split <;> rfl
@[simp] theorem State.hold_iy (a : Addr) (v : Byte) : (s.hold a v).iy = s.iy := by unfold State.hold; split <;> rfl
@[simp] theorem State.hold_sp (a : Addr) (v : Byte) : (s.hold a v).sp = s.sp := by unfold State.hold; split <;> rfl
@[simp] theorem State.hold_pc (a : Addr) (v : Byte) : (s.hold a v).pc = s.pc := by unfold State.hold; split <;> rfl
@[simp] theorem State.hold_status (a : Addr) (v : Byte) : (s.hold a v).status = s.status := by unfold State.hold; split <;> rfl
@[simp] theorem State.hold_nmiPending (a : Addr) (v : Byte) : (s.hold a v).nmiPending = s.nmiPending := by unfold State.hold; split <;> rfl
@[simp] theorem State.hold_zdivPending (a : Addr) (v : Byte) : (s.hold a v).zdivPending = s.zdivPending := by unfold State.hold; split <;> rfl
@[simp] theorem State.hold_intHoldoff (a : Addr) (v : Byte) : (s.hold a v).intHoldoff = s.intHoldoff := by unfold State.hold; split <;> rfl
@[simp] theorem State.hold_iackLow (a : Addr) (v : Byte) : (s.hold a v).iackLow = s.iackLow := by unfold State.hold; split <;> rfl
@[simp] theorem State.hold_cfg (a : Addr) (v : Byte) : (s.hold a v).cfg = s.cfg := by unfold State.hold; split <;> rfl
@[simp] theorem State.hold_pins (a : Addr) (v : Byte) : (s.hold a v).pins = s.pins := by unfold State.hold; split <;> rfl
@[simp] theorem State.hold_schedule (a : Addr) (v : Byte) : (s.hold a v).schedule = s.schedule := by unfold State.hold; split <;> rfl
@[simp] theorem State.hold_bus (a : Addr) (v : Byte) : (s.hold a v).bus = s.bus := by unfold State.hold; split <;> rfl
@[simp] theorem State.hold_trace (a : Addr) (v : Byte) : (s.hold a v).trace = s.trace := by unfold State.hold; split <;> rfl
@[simp] theorem State.hold_freeCount (a : Addr) (v : Byte) : (s.hold a v).freeCount = s.freeCount := by unfold State.hold; split <;> rfl

@[simp] theorem State.setFlag_a (f : Flag) (v : Bool) : (s.setFlag f v).a = s.a := rfl
@[simp] theorem State.setFlag_b (f : Flag) (v : Bool) : (s.setFlag f v).b = s.b := rfl
@[simp] theorem State.setFlag_l (f : Flag) (v : Bool) : (s.setFlag f v).l = s.l := rfl
@[simp] theorem State.setFlag_h (f : Flag) (v : Bool) : (s.setFlag f v).h = s.h := rfl
@[simp] theorem State.setFlag_br (f : Flag) (v : Bool) : (s.setFlag f v).br = s.br := rfl
@[simp] theorem State.setFlag_nb (f : Flag) (v : Bool) : (s.setFlag f v).nb = s.nb := rfl
@[simp] theorem State.setFlag_cb (f : Flag) (v : Bool) : (s.setFlag f v).cb = s.cb := rfl
@[simp] theorem State.setFlag_ep (f : Flag) (v : Bool) : (s.setFlag f v).ep = s.ep := rfl
@[simp] theorem State.setFlag_xp (f : Flag) (v : Bool) : (s.setFlag f v).xp = s.xp := rfl
@[simp] theorem State.setFlag_yp (f : Flag) (v : Bool) : (s.setFlag f v).yp = s.yp := rfl
@[simp] theorem State.setFlag_ix (f : Flag) (v : Bool) : (s.setFlag f v).ix = s.ix := rfl
@[simp] theorem State.setFlag_iy (f : Flag) (v : Bool) : (s.setFlag f v).iy = s.iy := rfl
@[simp] theorem State.setFlag_sp (f : Flag) (v : Bool) : (s.setFlag f v).sp = s.sp := rfl
@[simp] theorem State.setFlag_pc (f : Flag) (v : Bool) : (s.setFlag f v).pc = s.pc := rfl
@[simp] theorem State.setFlag_status (f : Flag) (v : Bool) : (s.setFlag f v).status = s.status := rfl
@[simp] theorem State.setFlag_nmiPending (f : Flag) (v : Bool) : (s.setFlag f v).nmiPending = s.nmiPending := rfl
@[simp] theorem State.setFlag_zdivPending (f : Flag) (v : Bool) : (s.setFlag f v).zdivPending = s.zdivPending := rfl
@[simp] theorem State.setFlag_intHoldoff (f : Flag) (v : Bool) : (s.setFlag f v).intHoldoff = s.intHoldoff := rfl
@[simp] theorem State.setFlag_iackLow (f : Flag) (v : Bool) : (s.setFlag f v).iackLow = s.iackLow := rfl
@[simp] theorem State.setFlag_mem (f : Flag) (v : Bool) : (s.setFlag f v).mem = s.mem := rfl
@[simp] theorem State.setFlag_cfg (f : Flag) (v : Bool) : (s.setFlag f v).cfg = s.cfg := rfl
@[simp] theorem State.setFlag_pins (f : Flag) (v : Bool) : (s.setFlag f v).pins = s.pins := rfl
@[simp] theorem State.setFlag_schedule (f : Flag) (v : Bool) : (s.setFlag f v).schedule = s.schedule := rfl
@[simp] theorem State.setFlag_bus (f : Flag) (v : Bool) : (s.setFlag f v).bus = s.bus := rfl
@[simp] theorem State.setFlag_trace (f : Flag) (v : Bool) : (s.setFlag f v).trace = s.trace := rfl
@[simp] theorem State.setFlag_freeCount (f : Flag) (v : Bool) : (s.setFlag f v).freeCount = s.freeCount := rfl

@[simp] theorem State.setNVCZ_a {w : Nat} (r : Alu w) : (s.setNVCZ r).a = s.a := rfl
@[simp] theorem State.setNZ_a (v : Byte) : (s.setNZ v).a = s.a := rfl
@[simp] theorem State.setNVCZ_b {w : Nat} (r : Alu w) : (s.setNVCZ r).b = s.b := rfl
@[simp] theorem State.setNZ_b (v : Byte) : (s.setNZ v).b = s.b := rfl
@[simp] theorem State.setNVCZ_l {w : Nat} (r : Alu w) : (s.setNVCZ r).l = s.l := rfl
@[simp] theorem State.setNZ_l (v : Byte) : (s.setNZ v).l = s.l := rfl
@[simp] theorem State.setNVCZ_h {w : Nat} (r : Alu w) : (s.setNVCZ r).h = s.h := rfl
@[simp] theorem State.setNZ_h (v : Byte) : (s.setNZ v).h = s.h := rfl
@[simp] theorem State.setNVCZ_br {w : Nat} (r : Alu w) : (s.setNVCZ r).br = s.br := rfl
@[simp] theorem State.setNZ_br (v : Byte) : (s.setNZ v).br = s.br := rfl
@[simp] theorem State.setNVCZ_nb {w : Nat} (r : Alu w) : (s.setNVCZ r).nb = s.nb := rfl
@[simp] theorem State.setNZ_nb (v : Byte) : (s.setNZ v).nb = s.nb := rfl
@[simp] theorem State.setNVCZ_cb {w : Nat} (r : Alu w) : (s.setNVCZ r).cb = s.cb := rfl
@[simp] theorem State.setNZ_cb (v : Byte) : (s.setNZ v).cb = s.cb := rfl
@[simp] theorem State.setNVCZ_ep {w : Nat} (r : Alu w) : (s.setNVCZ r).ep = s.ep := rfl
@[simp] theorem State.setNZ_ep (v : Byte) : (s.setNZ v).ep = s.ep := rfl
@[simp] theorem State.setNVCZ_xp {w : Nat} (r : Alu w) : (s.setNVCZ r).xp = s.xp := rfl
@[simp] theorem State.setNZ_xp (v : Byte) : (s.setNZ v).xp = s.xp := rfl
@[simp] theorem State.setNVCZ_yp {w : Nat} (r : Alu w) : (s.setNVCZ r).yp = s.yp := rfl
@[simp] theorem State.setNZ_yp (v : Byte) : (s.setNZ v).yp = s.yp := rfl
@[simp] theorem State.setNVCZ_ix {w : Nat} (r : Alu w) : (s.setNVCZ r).ix = s.ix := rfl
@[simp] theorem State.setNZ_ix (v : Byte) : (s.setNZ v).ix = s.ix := rfl
@[simp] theorem State.setNVCZ_iy {w : Nat} (r : Alu w) : (s.setNVCZ r).iy = s.iy := rfl
@[simp] theorem State.setNZ_iy (v : Byte) : (s.setNZ v).iy = s.iy := rfl
@[simp] theorem State.setNVCZ_sp {w : Nat} (r : Alu w) : (s.setNVCZ r).sp = s.sp := rfl
@[simp] theorem State.setNZ_sp (v : Byte) : (s.setNZ v).sp = s.sp := rfl
@[simp] theorem State.setNVCZ_pc {w : Nat} (r : Alu w) : (s.setNVCZ r).pc = s.pc := rfl
@[simp] theorem State.setNZ_pc (v : Byte) : (s.setNZ v).pc = s.pc := rfl
@[simp] theorem State.setNVCZ_status {w : Nat} (r : Alu w) : (s.setNVCZ r).status = s.status := rfl
@[simp] theorem State.setNZ_status (v : Byte) : (s.setNZ v).status = s.status := rfl
@[simp] theorem State.setNVCZ_nmiPending {w : Nat} (r : Alu w) : (s.setNVCZ r).nmiPending = s.nmiPending := rfl
@[simp] theorem State.setNZ_nmiPending (v : Byte) : (s.setNZ v).nmiPending = s.nmiPending := rfl
@[simp] theorem State.setNVCZ_zdivPending {w : Nat} (r : Alu w) : (s.setNVCZ r).zdivPending = s.zdivPending := rfl
@[simp] theorem State.setNZ_zdivPending (v : Byte) : (s.setNZ v).zdivPending = s.zdivPending := rfl
@[simp] theorem State.setNVCZ_intHoldoff {w : Nat} (r : Alu w) : (s.setNVCZ r).intHoldoff = s.intHoldoff := rfl
@[simp] theorem State.setNZ_intHoldoff (v : Byte) : (s.setNZ v).intHoldoff = s.intHoldoff := rfl
@[simp] theorem State.setNVCZ_iackLow {w : Nat} (r : Alu w) : (s.setNVCZ r).iackLow = s.iackLow := rfl
@[simp] theorem State.setNZ_iackLow (v : Byte) : (s.setNZ v).iackLow = s.iackLow := rfl
@[simp] theorem State.setNVCZ_mem {w : Nat} (r : Alu w) : (s.setNVCZ r).mem = s.mem := rfl
@[simp] theorem State.setNZ_mem (v : Byte) : (s.setNZ v).mem = s.mem := rfl
@[simp] theorem State.setNVCZ_cfg {w : Nat} (r : Alu w) : (s.setNVCZ r).cfg = s.cfg := rfl
@[simp] theorem State.setNZ_cfg (v : Byte) : (s.setNZ v).cfg = s.cfg := rfl
@[simp] theorem State.setNVCZ_pins {w : Nat} (r : Alu w) : (s.setNVCZ r).pins = s.pins := rfl
@[simp] theorem State.setNZ_pins (v : Byte) : (s.setNZ v).pins = s.pins := rfl
@[simp] theorem State.setNVCZ_schedule {w : Nat} (r : Alu w) : (s.setNVCZ r).schedule = s.schedule := rfl
@[simp] theorem State.setNZ_schedule (v : Byte) : (s.setNZ v).schedule = s.schedule := rfl
@[simp] theorem State.setNVCZ_bus {w : Nat} (r : Alu w) : (s.setNVCZ r).bus = s.bus := rfl
@[simp] theorem State.setNZ_bus (v : Byte) : (s.setNZ v).bus = s.bus := rfl
@[simp] theorem State.setNVCZ_trace {w : Nat} (r : Alu w) : (s.setNVCZ r).trace = s.trace := rfl
@[simp] theorem State.setNZ_trace (v : Byte) : (s.setNZ v).trace = s.trace := rfl
@[simp] theorem State.setNVCZ_freeCount {w : Nat} (r : Alu w) : (s.setNVCZ r).freeCount = s.freeCount := rfl
@[simp] theorem State.setNZ_freeCount (v : Byte) : (s.setNZ v).freeCount = s.freeCount := rfl

@[simp] theorem State.set8_cb (r : Reg8) (v : Byte) : (s.set8 r v).cb = s.cb := by cases r <;> rfl
@[simp] theorem State.set8_ix (r : Reg8) (v : Byte) : (s.set8 r v).ix = s.ix := by cases r <;> rfl
@[simp] theorem State.set8_iy (r : Reg8) (v : Byte) : (s.set8 r v).iy = s.iy := by cases r <;> rfl
@[simp] theorem State.set8_sp (r : Reg8) (v : Byte) : (s.set8 r v).sp = s.sp := by cases r <;> rfl
@[simp] theorem State.set8_pc (r : Reg8) (v : Byte) : (s.set8 r v).pc = s.pc := by cases r <;> rfl
@[simp] theorem State.set8_status (r : Reg8) (v : Byte) : (s.set8 r v).status = s.status := by cases r <;> rfl
@[simp] theorem State.set8_nmiPending (r : Reg8) (v : Byte) : (s.set8 r v).nmiPending = s.nmiPending := by cases r <;> rfl
@[simp] theorem State.set8_zdivPending (r : Reg8) (v : Byte) : (s.set8 r v).zdivPending = s.zdivPending := by cases r <;> rfl
@[simp] theorem State.set8_intHoldoff (r : Reg8) (v : Byte) : (s.set8 r v).intHoldoff = s.intHoldoff := by cases r <;> rfl
@[simp] theorem State.set8_iackLow (r : Reg8) (v : Byte) : (s.set8 r v).iackLow = s.iackLow := by cases r <;> rfl
@[simp] theorem State.set8_mem (r : Reg8) (v : Byte) : (s.set8 r v).mem = s.mem := by cases r <;> rfl
@[simp] theorem State.set8_cfg (r : Reg8) (v : Byte) : (s.set8 r v).cfg = s.cfg := by cases r <;> rfl
@[simp] theorem State.set8_pins (r : Reg8) (v : Byte) : (s.set8 r v).pins = s.pins := by cases r <;> rfl
@[simp] theorem State.set8_schedule (r : Reg8) (v : Byte) : (s.set8 r v).schedule = s.schedule := by cases r <;> rfl
@[simp] theorem State.set8_bus (r : Reg8) (v : Byte) : (s.set8 r v).bus = s.bus := by cases r <;> rfl
@[simp] theorem State.set8_trace (r : Reg8) (v : Byte) : (s.set8 r v).trace = s.trace := by cases r <;> rfl
@[simp] theorem State.set8_freeCount (r : Reg8) (v : Byte) : (s.set8 r v).freeCount = s.freeCount := by cases r <;> rfl
@[simp] theorem State.set8_a_get (v : Byte) : (s.set8 .a v).a = v := rfl
@[simp] theorem State.set8_b_get (v : Byte) : (s.set8 .b v).b = v := rfl
@[simp] theorem State.set8_l_get (v : Byte) : (s.set8 .l v).l = v := rfl
@[simp] theorem State.set8_h_get (v : Byte) : (s.set8 .h v).h = v := rfl
@[simp] theorem State.set8_br_get (v : Byte) : (s.set8 .br v).br = v := rfl
@[simp] theorem State.set8_sc_get (v : Byte) : (s.set8 .sc v).sc = v := rfl
@[simp] theorem State.set8_nb_get (v : Byte) : (s.set8 .nb v).nb = v := rfl
@[simp] theorem State.set8_ep_get (v : Byte) : (s.set8 .ep v).ep = v := rfl
@[simp] theorem State.set8_xp_get (v : Byte) : (s.set8 .xp v).xp = v := rfl
@[simp] theorem State.set8_yp_get (v : Byte) : (s.set8 .yp v).yp = v := rfl
@[simp] theorem State.get8_set8 (r : Reg8) (v : Byte) : (s.set8 r v).get8 r = v := by cases r <;> rfl

@[simp] theorem State.set16_br (r : Reg16) (v : Word) : (s.set16 r v).br = s.br := by cases r <;> rfl
@[simp] theorem State.set16_sc (r : Reg16) (v : Word) : (s.set16 r v).sc = s.sc := by cases r <;> rfl
@[simp] theorem State.set16_nb (r : Reg16) (v : Word) : (s.set16 r v).nb = s.nb := by cases r <;> rfl
@[simp] theorem State.set16_cb (r : Reg16) (v : Word) : (s.set16 r v).cb = s.cb := by cases r <;> rfl
@[simp] theorem State.set16_ep (r : Reg16) (v : Word) : (s.set16 r v).ep = s.ep := by cases r <;> rfl
@[simp] theorem State.set16_xp (r : Reg16) (v : Word) : (s.set16 r v).xp = s.xp := by cases r <;> rfl
@[simp] theorem State.set16_yp (r : Reg16) (v : Word) : (s.set16 r v).yp = s.yp := by cases r <;> rfl
@[simp] theorem State.set16_pc (r : Reg16) (v : Word) : (s.set16 r v).pc = s.pc := by cases r <;> rfl
@[simp] theorem State.set16_status (r : Reg16) (v : Word) : (s.set16 r v).status = s.status := by cases r <;> rfl
@[simp] theorem State.set16_nmiPending (r : Reg16) (v : Word) : (s.set16 r v).nmiPending = s.nmiPending := by cases r <;> rfl
@[simp] theorem State.set16_zdivPending (r : Reg16) (v : Word) : (s.set16 r v).zdivPending = s.zdivPending := by cases r <;> rfl
@[simp] theorem State.set16_intHoldoff (r : Reg16) (v : Word) : (s.set16 r v).intHoldoff = s.intHoldoff := by cases r <;> rfl
@[simp] theorem State.set16_iackLow (r : Reg16) (v : Word) : (s.set16 r v).iackLow = s.iackLow := by cases r <;> rfl
@[simp] theorem State.set16_mem (r : Reg16) (v : Word) : (s.set16 r v).mem = s.mem := by cases r <;> rfl
@[simp] theorem State.set16_cfg (r : Reg16) (v : Word) : (s.set16 r v).cfg = s.cfg := by cases r <;> rfl
@[simp] theorem State.set16_pins (r : Reg16) (v : Word) : (s.set16 r v).pins = s.pins := by cases r <;> rfl
@[simp] theorem State.set16_schedule (r : Reg16) (v : Word) : (s.set16 r v).schedule = s.schedule := by cases r <;> rfl
@[simp] theorem State.set16_bus (r : Reg16) (v : Word) : (s.set16 r v).bus = s.bus := by cases r <;> rfl
@[simp] theorem State.set16_trace (r : Reg16) (v : Word) : (s.set16 r v).trace = s.trace := by cases r <;> rfl
@[simp] theorem State.set16_freeCount (r : Reg16) (v : Word) : (s.set16 r v).freeCount = s.freeCount := by cases r <;> rfl

@[simp] theorem loadBank_a : (loadBank s).a = s.a := by unfold loadBank; split <;> rfl
@[simp] theorem loadBank_b : (loadBank s).b = s.b := by unfold loadBank; split <;> rfl
@[simp] theorem loadBank_l : (loadBank s).l = s.l := by unfold loadBank; split <;> rfl
@[simp] theorem loadBank_h : (loadBank s).h = s.h := by unfold loadBank; split <;> rfl
@[simp] theorem loadBank_br : (loadBank s).br = s.br := by unfold loadBank; split <;> rfl
@[simp] theorem loadBank_sc : (loadBank s).sc = s.sc := by unfold loadBank; split <;> rfl
@[simp] theorem loadBank_nb : (loadBank s).nb = s.nb := by unfold loadBank; split <;> rfl
@[simp] theorem loadBank_ep : (loadBank s).ep = s.ep := by unfold loadBank; split <;> rfl
@[simp] theorem loadBank_xp : (loadBank s).xp = s.xp := by unfold loadBank; split <;> rfl
@[simp] theorem loadBank_yp : (loadBank s).yp = s.yp := by unfold loadBank; split <;> rfl
@[simp] theorem loadBank_ix : (loadBank s).ix = s.ix := by unfold loadBank; split <;> rfl
@[simp] theorem loadBank_iy : (loadBank s).iy = s.iy := by unfold loadBank; split <;> rfl
@[simp] theorem loadBank_sp : (loadBank s).sp = s.sp := by unfold loadBank; split <;> rfl
@[simp] theorem loadBank_pc : (loadBank s).pc = s.pc := by unfold loadBank; split <;> rfl
@[simp] theorem loadBank_status : (loadBank s).status = s.status := by unfold loadBank; split <;> rfl
@[simp] theorem loadBank_nmiPending : (loadBank s).nmiPending = s.nmiPending := by unfold loadBank; split <;> rfl
@[simp] theorem loadBank_zdivPending : (loadBank s).zdivPending = s.zdivPending := by unfold loadBank; split <;> rfl
@[simp] theorem loadBank_intHoldoff : (loadBank s).intHoldoff = s.intHoldoff := by unfold loadBank; split <;> rfl
@[simp] theorem loadBank_iackLow : (loadBank s).iackLow = s.iackLow := by unfold loadBank; split <;> rfl
@[simp] theorem loadBank_mem : (loadBank s).mem = s.mem := by unfold loadBank; split <;> rfl
@[simp] theorem loadBank_cfg : (loadBank s).cfg = s.cfg := by unfold loadBank; split <;> rfl
@[simp] theorem loadBank_pins : (loadBank s).pins = s.pins := by unfold loadBank; split <;> rfl
@[simp] theorem loadBank_schedule : (loadBank s).schedule = s.schedule := by unfold loadBank; split <;> rfl
@[simp] theorem loadBank_bus : (loadBank s).bus = s.bus := by unfold loadBank; split <;> rfl
@[simp] theorem loadBank_trace : (loadBank s).trace = s.trace := by unfold loadBank; split <;> rfl
@[simp] theorem loadBank_freeCount : (loadBank s).freeCount = s.freeCount := by unfold loadBank; split <;> rfl
@[simp] theorem keepBank_a : (keepBank s).a = s.a := by unfold keepBank; split <;> rfl
@[simp] theorem keepBank_b : (keepBank s).b = s.b := by unfold keepBank; split <;> rfl
@[simp] theorem keepBank_l : (keepBank s).l = s.l := by unfold keepBank; split <;> rfl
@[simp] theorem keepBank_h : (keepBank s).h = s.h := by unfold keepBank; split <;> rfl
@[simp] theorem keepBank_br : (keepBank s).br = s.br := by unfold keepBank; split <;> rfl
@[simp] theorem keepBank_sc : (keepBank s).sc = s.sc := by unfold keepBank; split <;> rfl
@[simp] theorem keepBank_cb : (keepBank s).cb = s.cb := by unfold keepBank; split <;> rfl
@[simp] theorem keepBank_ep : (keepBank s).ep = s.ep := by unfold keepBank; split <;> rfl
@[simp] theorem keepBank_xp : (keepBank s).xp = s.xp := by unfold keepBank; split <;> rfl
@[simp] theorem keepBank_yp : (keepBank s).yp = s.yp := by unfold keepBank; split <;> rfl
@[simp] theorem keepBank_ix : (keepBank s).ix = s.ix := by unfold keepBank; split <;> rfl
@[simp] theorem keepBank_iy : (keepBank s).iy = s.iy := by unfold keepBank; split <;> rfl
@[simp] theorem keepBank_sp : (keepBank s).sp = s.sp := by unfold keepBank; split <;> rfl
@[simp] theorem keepBank_pc : (keepBank s).pc = s.pc := by unfold keepBank; split <;> rfl
@[simp] theorem keepBank_status : (keepBank s).status = s.status := by unfold keepBank; split <;> rfl
@[simp] theorem keepBank_nmiPending : (keepBank s).nmiPending = s.nmiPending := by unfold keepBank; split <;> rfl
@[simp] theorem keepBank_zdivPending : (keepBank s).zdivPending = s.zdivPending := by unfold keepBank; split <;> rfl
@[simp] theorem keepBank_intHoldoff : (keepBank s).intHoldoff = s.intHoldoff := by unfold keepBank; split <;> rfl
@[simp] theorem keepBank_iackLow : (keepBank s).iackLow = s.iackLow := by unfold keepBank; split <;> rfl
@[simp] theorem keepBank_mem : (keepBank s).mem = s.mem := by unfold keepBank; split <;> rfl
@[simp] theorem keepBank_cfg : (keepBank s).cfg = s.cfg := by unfold keepBank; split <;> rfl
@[simp] theorem keepBank_pins : (keepBank s).pins = s.pins := by unfold keepBank; split <;> rfl
@[simp] theorem keepBank_schedule : (keepBank s).schedule = s.schedule := by unfold keepBank; split <;> rfl
@[simp] theorem keepBank_bus : (keepBank s).bus = s.bus := by unfold keepBank; split <;> rfl
@[simp] theorem keepBank_trace : (keepBank s).trace = s.trace := by unfold keepBank; split <;> rfl
@[simp] theorem keepBank_freeCount : (keepBank s).freeCount = s.freeCount := by unfold keepBank; split <;> rfl
@[simp] theorem branch_a (v : Word) : (branch v s).a = s.a := by simp [branch]
@[simp] theorem branch_b (v : Word) : (branch v s).b = s.b := by simp [branch]
@[simp] theorem branch_l (v : Word) : (branch v s).l = s.l := by simp [branch]
@[simp] theorem branch_h (v : Word) : (branch v s).h = s.h := by simp [branch]
@[simp] theorem branch_br (v : Word) : (branch v s).br = s.br := by simp [branch]
@[simp] theorem branch_sc (v : Word) : (branch v s).sc = s.sc := by simp [branch]
@[simp] theorem branch_nb (v : Word) : (branch v s).nb = s.nb := by simp [branch]
@[simp] theorem branch_ep (v : Word) : (branch v s).ep = s.ep := by simp [branch]
@[simp] theorem branch_xp (v : Word) : (branch v s).xp = s.xp := by simp [branch]
@[simp] theorem branch_yp (v : Word) : (branch v s).yp = s.yp := by simp [branch]
@[simp] theorem branch_ix (v : Word) : (branch v s).ix = s.ix := by simp [branch]
@[simp] theorem branch_iy (v : Word) : (branch v s).iy = s.iy := by simp [branch]
@[simp] theorem branch_sp (v : Word) : (branch v s).sp = s.sp := by simp [branch]
@[simp] theorem branch_status (v : Word) : (branch v s).status = s.status := by simp [branch]
@[simp] theorem branch_nmiPending (v : Word) : (branch v s).nmiPending = s.nmiPending := by simp [branch]
@[simp] theorem branch_zdivPending (v : Word) : (branch v s).zdivPending = s.zdivPending := by simp [branch]
@[simp] theorem branch_intHoldoff (v : Word) : (branch v s).intHoldoff = s.intHoldoff := by simp [branch]
@[simp] theorem branch_iackLow (v : Word) : (branch v s).iackLow = s.iackLow := by simp [branch]
@[simp] theorem branch_mem (v : Word) : (branch v s).mem = s.mem := by simp [branch]
@[simp] theorem branch_cfg (v : Word) : (branch v s).cfg = s.cfg := by simp [branch]
@[simp] theorem branch_pins (v : Word) : (branch v s).pins = s.pins := by simp [branch]
@[simp] theorem branch_schedule (v : Word) : (branch v s).schedule = s.schedule := by simp [branch]
@[simp] theorem branch_bus (v : Word) : (branch v s).bus = s.bus := by simp [branch]
@[simp] theorem branch_trace (v : Word) : (branch v s).trace = s.trace := by simp [branch]
@[simp] theorem branch_freeCount (v : Word) : (branch v s).freeCount = s.freeCount := by simp [branch]
@[simp] theorem branch_pc (v : Word) : (branch v s).pc = v := by simp [branch]
@[simp] theorem noBranch_a : (noBranch s).a = s.a := by simp [noBranch]
@[simp] theorem noBranch_b : (noBranch s).b = s.b := by simp [noBranch]
@[simp] theorem noBranch_l : (noBranch s).l = s.l := by simp [noBranch]
@[simp] theorem noBranch_h : (noBranch s).h = s.h := by simp [noBranch]
@[simp] theorem noBranch_br : (noBranch s).br = s.br := by simp [noBranch]
@[simp] theorem noBranch_sc : (noBranch s).sc = s.sc := by simp [noBranch]
@[simp] theorem noBranch_cb : (noBranch s).cb = s.cb := by simp [noBranch]
@[simp] theorem noBranch_ep : (noBranch s).ep = s.ep := by simp [noBranch]
@[simp] theorem noBranch_xp : (noBranch s).xp = s.xp := by simp [noBranch]
@[simp] theorem noBranch_yp : (noBranch s).yp = s.yp := by simp [noBranch]
@[simp] theorem noBranch_ix : (noBranch s).ix = s.ix := by simp [noBranch]
@[simp] theorem noBranch_iy : (noBranch s).iy = s.iy := by simp [noBranch]
@[simp] theorem noBranch_sp : (noBranch s).sp = s.sp := by simp [noBranch]
@[simp] theorem noBranch_pc : (noBranch s).pc = s.pc := by simp [noBranch]
@[simp] theorem noBranch_status : (noBranch s).status = s.status := by simp [noBranch]
@[simp] theorem noBranch_nmiPending : (noBranch s).nmiPending = s.nmiPending := by simp [noBranch]
@[simp] theorem noBranch_zdivPending : (noBranch s).zdivPending = s.zdivPending := by simp [noBranch]
@[simp] theorem noBranch_intHoldoff : (noBranch s).intHoldoff = s.intHoldoff := by simp [noBranch]
@[simp] theorem noBranch_iackLow : (noBranch s).iackLow = s.iackLow := by simp [noBranch]
@[simp] theorem noBranch_mem : (noBranch s).mem = s.mem := by simp [noBranch]
@[simp] theorem noBranch_cfg : (noBranch s).cfg = s.cfg := by simp [noBranch]
@[simp] theorem noBranch_pins : (noBranch s).pins = s.pins := by simp [noBranch]
@[simp] theorem noBranch_schedule : (noBranch s).schedule = s.schedule := by simp [noBranch]
@[simp] theorem noBranch_bus : (noBranch s).bus = s.bus := by simp [noBranch]
@[simp] theorem noBranch_trace : (noBranch s).trace = s.trace := by simp [noBranch]
@[simp] theorem noBranch_freeCount : (noBranch s).freeCount = s.freeCount := by simp [noBranch]

@[simp] theorem sealBus_a : (sealBus s).a = s.a := rfl
@[simp] theorem sealRest_a : (sealRest s).a = s.a := by unfold sealRest; split <;> rfl
@[simp] theorem lockBus_a : (lockBus s).a = s.a := by unfold lockBus; split <;> simp
@[simp] theorem sealBus_b : (sealBus s).b = s.b := rfl
@[simp] theorem sealRest_b : (sealRest s).b = s.b := by unfold sealRest; split <;> rfl
@[simp] theorem lockBus_b : (lockBus s).b = s.b := by unfold lockBus; split <;> simp
@[simp] theorem sealBus_l : (sealBus s).l = s.l := rfl
@[simp] theorem sealRest_l : (sealRest s).l = s.l := by unfold sealRest; split <;> rfl
@[simp] theorem lockBus_l : (lockBus s).l = s.l := by unfold lockBus; split <;> simp
@[simp] theorem sealBus_h : (sealBus s).h = s.h := rfl
@[simp] theorem sealRest_h : (sealRest s).h = s.h := by unfold sealRest; split <;> rfl
@[simp] theorem lockBus_h : (lockBus s).h = s.h := by unfold lockBus; split <;> simp
@[simp] theorem sealBus_br : (sealBus s).br = s.br := rfl
@[simp] theorem sealRest_br : (sealRest s).br = s.br := by unfold sealRest; split <;> rfl
@[simp] theorem lockBus_br : (lockBus s).br = s.br := by unfold lockBus; split <;> simp
@[simp] theorem sealBus_sc : (sealBus s).sc = s.sc := rfl
@[simp] theorem sealRest_sc : (sealRest s).sc = s.sc := by unfold sealRest; split <;> rfl
@[simp] theorem lockBus_sc : (lockBus s).sc = s.sc := by unfold lockBus; split <;> simp
@[simp] theorem sealBus_nb : (sealBus s).nb = s.nb := rfl
@[simp] theorem sealRest_nb : (sealRest s).nb = s.nb := by unfold sealRest; split <;> rfl
@[simp] theorem lockBus_nb : (lockBus s).nb = s.nb := by unfold lockBus; split <;> simp
@[simp] theorem sealBus_cb : (sealBus s).cb = s.cb := rfl
@[simp] theorem sealRest_cb : (sealRest s).cb = s.cb := by unfold sealRest; split <;> rfl
@[simp] theorem lockBus_cb : (lockBus s).cb = s.cb := by unfold lockBus; split <;> simp
@[simp] theorem sealBus_ep : (sealBus s).ep = s.ep := rfl
@[simp] theorem sealRest_ep : (sealRest s).ep = s.ep := by unfold sealRest; split <;> rfl
@[simp] theorem lockBus_ep : (lockBus s).ep = s.ep := by unfold lockBus; split <;> simp
@[simp] theorem sealBus_xp : (sealBus s).xp = s.xp := rfl
@[simp] theorem sealRest_xp : (sealRest s).xp = s.xp := by unfold sealRest; split <;> rfl
@[simp] theorem lockBus_xp : (lockBus s).xp = s.xp := by unfold lockBus; split <;> simp
@[simp] theorem sealBus_yp : (sealBus s).yp = s.yp := rfl
@[simp] theorem sealRest_yp : (sealRest s).yp = s.yp := by unfold sealRest; split <;> rfl
@[simp] theorem lockBus_yp : (lockBus s).yp = s.yp := by unfold lockBus; split <;> simp
@[simp] theorem sealBus_ix : (sealBus s).ix = s.ix := rfl
@[simp] theorem sealRest_ix : (sealRest s).ix = s.ix := by unfold sealRest; split <;> rfl
@[simp] theorem lockBus_ix : (lockBus s).ix = s.ix := by unfold lockBus; split <;> simp
@[simp] theorem sealBus_iy : (sealBus s).iy = s.iy := rfl
@[simp] theorem sealRest_iy : (sealRest s).iy = s.iy := by unfold sealRest; split <;> rfl
@[simp] theorem lockBus_iy : (lockBus s).iy = s.iy := by unfold lockBus; split <;> simp
@[simp] theorem sealBus_sp : (sealBus s).sp = s.sp := rfl
@[simp] theorem sealRest_sp : (sealRest s).sp = s.sp := by unfold sealRest; split <;> rfl
@[simp] theorem lockBus_sp : (lockBus s).sp = s.sp := by unfold lockBus; split <;> simp
@[simp] theorem sealBus_pc : (sealBus s).pc = s.pc := rfl
@[simp] theorem sealRest_pc : (sealRest s).pc = s.pc := by unfold sealRest; split <;> rfl
@[simp] theorem lockBus_pc : (lockBus s).pc = s.pc := by unfold lockBus; split <;> simp
@[simp] theorem sealBus_status : (sealBus s).status = s.status := rfl
@[simp] theorem sealRest_status : (sealRest s).status = s.status := by unfold sealRest; split <;> rfl
@[simp] theorem lockBus_status : (lockBus s).status = s.status := by unfold lockBus; split <;> simp
@[simp] theorem sealBus_nmiPending : (sealBus s).nmiPending = s.nmiPending := rfl
@[simp] theorem sealRest_nmiPending : (sealRest s).nmiPending = s.nmiPending := by unfold sealRest; split <;> rfl
@[simp] theorem lockBus_nmiPending : (lockBus s).nmiPending = s.nmiPending := by unfold lockBus; split <;> simp
@[simp] theorem sealBus_zdivPending : (sealBus s).zdivPending = s.zdivPending := rfl
@[simp] theorem sealRest_zdivPending : (sealRest s).zdivPending = s.zdivPending := by unfold sealRest; split <;> rfl
@[simp] theorem lockBus_zdivPending : (lockBus s).zdivPending = s.zdivPending := by unfold lockBus; split <;> simp
@[simp] theorem sealBus_intHoldoff : (sealBus s).intHoldoff = s.intHoldoff := rfl
@[simp] theorem sealRest_intHoldoff : (sealRest s).intHoldoff = s.intHoldoff := by unfold sealRest; split <;> rfl
@[simp] theorem lockBus_intHoldoff : (lockBus s).intHoldoff = s.intHoldoff := by unfold lockBus; split <;> simp
@[simp] theorem sealBus_iackLow : (sealBus s).iackLow = s.iackLow := rfl
@[simp] theorem sealRest_iackLow : (sealRest s).iackLow = s.iackLow := by unfold sealRest; split <;> rfl
@[simp] theorem lockBus_iackLow : (lockBus s).iackLow = s.iackLow := by unfold lockBus; split <;> simp
@[simp] theorem sealBus_mem : (sealBus s).mem = s.mem := rfl
@[simp] theorem sealRest_mem : (sealRest s).mem = s.mem := by unfold sealRest; split <;> rfl
@[simp] theorem lockBus_mem : (lockBus s).mem = s.mem := by unfold lockBus; split <;> simp
@[simp] theorem sealBus_cfg : (sealBus s).cfg = s.cfg := rfl
@[simp] theorem sealRest_cfg : (sealRest s).cfg = s.cfg := by unfold sealRest; split <;> rfl
@[simp] theorem lockBus_cfg : (lockBus s).cfg = s.cfg := by unfold lockBus; split <;> simp
@[simp] theorem sealBus_pins : (sealBus s).pins = s.pins := rfl
@[simp] theorem sealRest_pins : (sealRest s).pins = s.pins := by unfold sealRest; split <;> rfl
@[simp] theorem lockBus_pins : (lockBus s).pins = s.pins := by unfold lockBus; split <;> simp
@[simp] theorem sealBus_schedule : (sealBus s).schedule = s.schedule := rfl
@[simp] theorem sealRest_schedule : (sealRest s).schedule = s.schedule := by unfold sealRest; split <;> rfl
@[simp] theorem lockBus_schedule : (lockBus s).schedule = s.schedule := by unfold lockBus; split <;> simp
@[simp] theorem sealBus_trace : (sealBus s).trace = s.trace := rfl
@[simp] theorem sealRest_trace : (sealRest s).trace = s.trace := by unfold sealRest; split <;> rfl
@[simp] theorem lockBus_trace : (lockBus s).trace = s.trace := by unfold lockBus; split <;> simp
@[simp] theorem sealBus_freeCount : (sealBus s).freeCount = s.freeCount := rfl
@[simp] theorem sealRest_freeCount : (sealRest s).freeCount = s.freeCount := by unfold sealRest; split <;> rfl
@[simp] theorem lockBus_freeCount : (lockBus s).freeCount = s.freeCount := by unfold lockBus; split <;> simp
@[simp] theorem acknowledge_a : (acknowledge s).a = s.a := rfl
@[simp] theorem acknowledge_b : (acknowledge s).b = s.b := rfl
@[simp] theorem acknowledge_l : (acknowledge s).l = s.l := rfl
@[simp] theorem acknowledge_h : (acknowledge s).h = s.h := rfl
@[simp] theorem acknowledge_br : (acknowledge s).br = s.br := rfl
@[simp] theorem acknowledge_sc : (acknowledge s).sc = s.sc := rfl
@[simp] theorem acknowledge_nb : (acknowledge s).nb = s.nb := rfl
@[simp] theorem acknowledge_cb : (acknowledge s).cb = s.cb := rfl
@[simp] theorem acknowledge_ep : (acknowledge s).ep = s.ep := rfl
@[simp] theorem acknowledge_xp : (acknowledge s).xp = s.xp := rfl
@[simp] theorem acknowledge_yp : (acknowledge s).yp = s.yp := rfl
@[simp] theorem acknowledge_ix : (acknowledge s).ix = s.ix := rfl
@[simp] theorem acknowledge_iy : (acknowledge s).iy = s.iy := rfl
@[simp] theorem acknowledge_sp : (acknowledge s).sp = s.sp := rfl
@[simp] theorem acknowledge_pc : (acknowledge s).pc = s.pc := rfl
@[simp] theorem acknowledge_nmiPending : (acknowledge s).nmiPending = s.nmiPending := rfl
@[simp] theorem acknowledge_zdivPending : (acknowledge s).zdivPending = s.zdivPending := rfl
@[simp] theorem acknowledge_intHoldoff : (acknowledge s).intHoldoff = s.intHoldoff := rfl
@[simp] theorem acknowledge_mem : (acknowledge s).mem = s.mem := rfl
@[simp] theorem acknowledge_cfg : (acknowledge s).cfg = s.cfg := rfl
@[simp] theorem acknowledge_pins : (acknowledge s).pins = s.pins := rfl
@[simp] theorem acknowledge_schedule : (acknowledge s).schedule = s.schedule := rfl
@[simp] theorem acknowledge_bus : (acknowledge s).bus = s.bus := rfl
@[simp] theorem acknowledge_trace : (acknowledge s).trace = s.trace := rfl
@[simp] theorem acknowledge_freeCount : (acknowledge s).freeCount = s.freeCount := rfl
@[simp] theorem acknowledge_status : (acknowledge s).status = .exception := rfl
@[simp] theorem acknowledge_iackLow : (acknowledge s).iackLow = true := rfl

/-- CB of a taken branch (R591). -/
theorem branch_cb (v : Word) : (branch v s).cb = if s.cfg.model.hasExpansion then s.nb else s.cb := by
  cases h : s.cfg.model.hasExpansion <;> simp [branch, loadBank, h]

/-- NB of a branch not taken (R592). -/
theorem noBranch_nb : (noBranch s).nb = if s.cfg.model.hasExpansion then s.cb else s.nb := by
  unfold noBranch keepBank; split <;> rfl

/-! Bits of a byte and the flags of SC. -/

/-- A replaced bit reads as written, the others as before. -/
theorem putBit_getLsbD (b : Byte) (i j : Nat) (v : Bool) (_hi : i < 8) (hj : j < 8) :
    (putBit b i v).getLsbD j = if i = j then v else b.getLsbD j := by
  unfold putBit
  cases v <;> by_cases h : i = j <;> simp [h, hj] <;> omega

/-- A written flag reads as written, the others as before. -/
@[simp] theorem State.flag_setFlag (f g : Flag) (v : Bool) :
    (s.setFlag f v).flag g = if f = g then v else s.flag g := by
  have h := putBit_getLsbD s.sc f.bit g.bit v (by cases f <;> decide) (by cases g <;> decide)
  have e : (f.bit = g.bit) = (f = g) := by cases f <;> cases g <;> simp [Flag.bit]
  rw [show (s.setFlag f v).flag g = (putBit s.sc f.bit v).getLsbD g.bit from rfl, h]
  simp only [e, State.flag]

/-- A flag depends on SC alone. -/
theorem State.flag_congr {s t : State} (h : t.sc = s.sc) (f : Flag) : t.flag f = s.flag f := by
  simp [State.flag, h]

/-! Bytes of a word. -/

/-- The bits of `hi ++ lo`. -/
theorem pair_getLsbD (h l : Byte) (i : Nat) :
    (pair h l).getLsbD i = if i < 8 then l.getLsbD i else h.getLsbD (i - 8) :=
  BitVec.getLsbD_append

@[simp] theorem pair_hi_lo (w : Word) : pair (hiByte w) (loByte w) = w := by
  apply BitVec.eq_of_getLsbD_eq
  intro i hi
  rw [pair_getLsbD]
  split
  · rename_i h; simp only [loByte, BitVec.getLsbD_extractLsb', h]; simp
  · rename_i h
    have h2 : i - 8 < 8 := by omega
    simp only [hiByte, BitVec.getLsbD_extractLsb', h2, decide_true, Bool.true_and]
    congr 1; omega

@[simp] theorem hiByte_pair (h l : Byte) : hiByte (pair h l) = h := by
  apply BitVec.eq_of_getLsbD_eq
  intro i hi
  simp only [hiByte, BitVec.getLsbD_extractLsb', pair_getLsbD, hi]
  simp

@[simp] theorem loByte_pair (h l : Byte) : loByte (pair h l) = l := by
  apply BitVec.eq_of_getLsbD_eq
  intro i hi
  simp only [loByte, BitVec.getLsbD_extractLsb', pair_getLsbD, hi]
  simp [hi]

@[simp] theorem State.get16_set16 (r : Reg16) (v : Word) : (s.set16 r v).get16 r = v := by
  cases r <;> simp [State.set16, State.get16, State.ba, State.hl]

end Sys2Proof.Machine
end

