-- ==== Sys2Proof/Laws/Memory.lean ====
section
/-! SUPPORT. The laws of memory: read after write, the canonical form kept by every memory operation, and what one byte access can do, the break-point before it included. -/

namespace Sys2Proof.Machine

/-! The list. -/

/-- A stored byte reads back. -/
@[simp] theorem byteAt_store_same (m : Memory) (a : Nat) (v : Byte) :
    (m.store a v).byteAt a = some v := by
  induction m with
  | nil => simp [Memory.store, Memory.byteAt]
  | cons c m ih =>
    obtain ⟨k, w⟩ := c
    unfold Memory.store
    split
    · simp [Memory.byteAt]
    · split
      · simp [Memory.byteAt]
      · rename_i h
        simp only [Memory.byteAt, h, if_false]; exact ih

/-- Every other byte reads as before. -/
theorem byteAt_store_other (m : Memory) {a b : Nat} (v : Byte) (h : b ≠ a) :
    (m.store a v).byteAt b = m.byteAt b := by
  induction m with
  | nil => simp [Memory.store, Memory.byteAt, h]
  | cons c m ih =>
    obtain ⟨k, w⟩ := c
    unfold Memory.store
    split
    · simp [Memory.byteAt, h]
    · split
      · rename_i e; subst e; simp [Memory.byteAt, h]
      · simp only [Memory.byteAt]; split
        · rfl
        · exact ih

/-- Both cases of a read after a write. -/
theorem byteAt_store (m : Memory) (a b : Nat) (v : Byte) :
    (m.store a v).byteAt b = if b = a then some v else m.byteAt b := by
  split
  · rename_i h; subst h; simp
  · rename_i h; exact byteAt_store_other m v h

/-- A lower bound may be lowered. -/
theorem risingFrom_mono {m : Memory} {lo hi : Nat} (h : lo ≤ hi) (w : m.risingFrom hi = true) :
    m.risingFrom lo = true := by
  cases m with
  | nil => rfl
  | cons c m =>
    obtain ⟨k, v⟩ := c
    simp only [Memory.risingFrom, Bool.and_eq_true, decide_eq_true_eq] at w ⊢
    exact ⟨⟨by omega, w.1.2⟩, w.2⟩

/-- A store at or above the bound keeps the rising order. -/
theorem risingFrom_store {m : Memory} {lo a : Nat} (v : Byte) (h : lo ≤ a) (b : a < 2 ^ 24)
    (w : m.risingFrom lo = true) : (m.store a v).risingFrom lo = true := by
  induction m generalizing lo with
  | nil => simp only [Memory.store, Memory.risingFrom, Bool.and_eq_true, decide_eq_true_eq]; exact ⟨⟨h, b⟩, trivial⟩
  | cons c m ih =>
    obtain ⟨k, x⟩ := c
    simp only [Memory.risingFrom, Bool.and_eq_true, decide_eq_true_eq] at w
    unfold Memory.store
    split
    · simp only [Memory.risingFrom, Bool.and_eq_true, decide_eq_true_eq]
      exact ⟨⟨h, b⟩, ⟨by omega, w.1.2⟩, w.2⟩
    · split
      · rename_i e; subst e
        simp only [Memory.risingFrom, Bool.and_eq_true, decide_eq_true_eq]
        exact ⟨⟨h, b⟩, w.2⟩
      · simp only [Memory.risingFrom, Bool.and_eq_true, decide_eq_true_eq]
        exact ⟨⟨w.1.1, w.1.2⟩, ih (by omega) w.2⟩

/-- A store keeps the canonical form. -/
theorem store_wf {m : Memory} (a : Addr) (v : Byte) (w : m.wf = true) : (m.store a.toNat v).wf = true :=
  risingFrom_store v (Nat.zero_le _) a.isLt w

/-- The memory of the reset state is canonical. -/
theorem reset_mem_wf : State.reset.mem.wf = true := rfl

/-! What accesses can do. -/

/-- From `s` to `t` there are only bus cycles, in which the CPU stores to `bytes`: nothing but memory, the bus and the trace has changed; the canonical form is kept; every other byte is the bus master's or as before; no cut and no byte of the bus master is new. -/
structure Access (s t : State) (bytes : List Addr) : Prop where
  only : t = ((s.setMem t.mem).setBus t.bus).setTrace t.trace
  wf : s.mem.wf = true → t.mem.wf = true
  uncut : s.uncut → t.uncut
  master : ∀ a ∈ masterBytes t, a ∈ masterBytes s
  other : ∀ a, a ∉ bytes → a ∉ masterBytes s → t.byteAt a = s.byteAt a

theorem Access.refl (s : State) : Access s s [] := ⟨rfl, id, id, fun _ h => h, fun _ _ _ => rfl⟩

theorem Access.trans {s t u : State} {x y : List Addr} (h : Access s t x) (k : Access t u y) :
    Access s u (x ++ y) := by
  refine ⟨?_, fun w => k.wf (h.wf w), fun w => k.uncut (h.uncut w), fun a m => h.master a (k.master a m), ?_⟩
  · have e := k.only
    rw [h.only] at e
    exact e
  · intro a n m
    simp only [List.mem_append, not_or] at n
    rw [k.other a n.2 fun e => m (h.master a e), h.other a n.1 m]

theorem Access.mono {s t : State} {x y : List Addr} (h : Access s t x) (i : ∀ a ∈ x, a ∈ y) : Access s t y :=
  ⟨h.only, h.wf, h.uncut, h.master, fun a n => h.other a fun e => n (i a e)⟩

/-- Every field but memory, the bus and the trace, at once. -/
theorem Access.same {s t : State} {x : List Addr} (h : Access s t x) {α : Type} (f : State → α)
    (i : ∀ u m b e, f (((State.setMem u m).setBus b).setTrace e) = f u) : f t = f s := by
  rw [h.only]; exact i s _ _ _

theorem Access.cfg {s t : State} {x : List Addr} (h : Access s t x) : t.cfg = s.cfg :=
  h.same State.cfg fun _ _ _ _ => rfl

theorem Access.kindAt {s t : State} {x : List Addr} (h : Access s t x) (a : Addr) : t.kindAt a = s.kindAt a := by
  unfold State.kindAt; rw [h.cfg]

/-! The addressed memory. -/

/-- A byte that is held reads back from RAM, and every other byte reads as before. -/
theorem hold_byteAt (s : State) (a b : Addr) (v : Byte) (k : s.kindAt a = .ram) :
    (s.hold a v).byteAt b = if b = a then some v else s.byteAt b := by
  simp only [State.hold, k, State.byteAt, State.setMem_mem, byteAt_store]
  by_cases e : b = a
  · simp [e]
  · have n : b.toNat ≠ a.toNat := fun h => e (BitVec.eq_of_toNat_eq h)
    simp [e, n]

theorem hold_other (s : State) {a b : Addr} (v : Byte) (n : b ≠ a) : (s.hold a v).byteAt b = s.byteAt b := by
  unfold State.hold
  split <;> first
    | exact byteAt_store_other _ _ fun e => n (BitVec.eq_of_toNat_eq e)
    | rfl

theorem hold_wf (s : State) (a : Addr) (v : Byte) (w : s.mem.wf = true) : (s.hold a v).mem.wf = true := by
  unfold State.hold
  split <;> first | exact store_wf _ _ w | exact w

/-- Holding a byte is an access that stores to its address. -/
theorem hold_access (s : State) (a : Addr) (v : Byte) : Access s (s.hold a v) [a] := by
  refine ⟨?_, hold_wf s a v, ?_, ?_, fun b n _ => hold_other s v (by simpa using n)⟩
  · unfold State.hold; split <;> rfl
  · unfold State.uncut; simp
  · unfold masterBytes; simp

theorem record_access (s : State) (e : BusEvent) : Access s (s.record e) [] :=
  ⟨rfl, id, id, fun _ h => h, fun _ _ _ => rfl⟩

/-! The bus master. -/

/-- One access of the bus master. -/
theorem masterAccess_access (s : State) (x : MasterAccess) : Access s (masterAccess s x) x.written := by
  cases x with
  | read a => exact record_access s _
  | write a v => exact (hold_access s a v).trans (record_access _ _)

/-- Its accesses, one after the other. -/
theorem masterAccesses_access (l : List MasterAccess) (s : State) :
    Access s (l.foldl masterAccess s) (l.flatMap MasterAccess.written) := by
  induction l generalizing s with
  | nil => exact Access.refl s
  | cons x l ih => exact (masterAccess_access s x).trans (ih _)

/-- They leave what comes with the CPU's accesses. -/
theorem masterAccesses_bus (l : List MasterAccess) (s : State) : (l.foldl masterAccess s).bus = s.bus := by
  induction l generalizing s with
  | nil => rfl
  | cons x l ih =>
    rw [List.foldl_cons, ih]
    cases x <;> simp [masterAccess]

/-- What the bus master does while it owns the bus. -/
theorem busMaster_access (s : State) : Access s (busMaster s) (s.pins.master.flatMap MasterAccess.written) :=
  masterAccesses_access _ s

/-! The bus cycle. -/

/-- A bus cycle answers: nothing comes with it, or the bus master acts before it and SR stays HIGH. -/
theorem busCycle_ok {s t : State} {d : Option Byte} :
    busCycle s = .ok (t, d) ↔ s.bus = [] ∧ t = s ∧ d = none ∨
      ∃ c rest, s.bus = c :: rest ∧ c.cut = false ∧ t = c.master.foldl masterAccess (s.setBus rest) ∧
        d = c.data := by
  unfold busCycle
  cases s.bus with
  | nil => simp [eq_comm (a := s), eq_comm (a := (none : Option Byte))]
  | cons c rest => cases h : c.cut <;> 
      simp [h, eq_comm (b := t), eq_comm (b := d), and_assoc, @eq_comm _ c, @eq_comm _ rest]

/-- A bus cycle is cut: the bus master has acted, the access never happens (R704). -/
theorem busCycle_reset {s u : State} :
    busCycle s = .error (.reset u) ↔
      ∃ c rest, s.bus = c :: rest ∧ c.cut = true ∧ u = c.master.foldl masterAccess (s.setBus rest) := by
  unfold busCycle
  cases s.bus with
  | nil => simp
  | cons c rest => cases h : c.cut <;> 
      simp [h, eq_comm (b := u), and_assoc, @eq_comm _ c, @eq_comm _ rest]

/-- It never faults. -/
theorem busCycle_fault {s : State} {f : Fault} : busCycle s ≠ .error (.fault f) := by
  unfold busCycle
  cases s.bus with
  | nil => simp
  | cons c rest => cases h : c.cut <;> simp [h]

/-- Dropping the break-point and letting the bus master act in it. -/
theorem breakPoint_access {s : State} {c : BusCycle} {rest : List BusCycle} (h : s.bus = c :: rest) :
    Access s (c.master.foldl masterAccess (s.setBus rest)) [] := by
  have k := masterAccesses_access c.master (s.setBus rest)
  have b := masterAccesses_bus c.master (s.setBus rest)
  have inRest : ∀ a ∈ masterBytes (s.setBus rest), a ∈ masterBytes s := by
    intro a m
    simp only [masterBytes, State.setBus_bus, h, List.flatMap_cons, List.mem_append] at m ⊢
    exact .inr m
  refine ⟨k.only, k.wf, fun u => k.uncut fun x m => u x (h ▸ List.mem_cons_of_mem _ m),
    fun a m => inRest a (k.master a m), fun a _ m => k.other a ?_ fun e => m (inRest a e)⟩
  intro e
  apply m
  simp only [masterBytes, h, List.flatMap_cons, List.mem_append]
  exact .inl e

theorem busCycle_access {s t : State} {d : Option Byte} (h : busCycle s = .ok (t, d)) : Access s t [] := by
  rcases busCycle_ok.1 h with ⟨_, rfl, _⟩ | ⟨c, rest, e, _, rfl, _⟩
  · exact Access.refl _
  · exact breakPoint_access e

theorem busCycle_reset_access {s u : State} (h : busCycle s = .error (.reset u)) : Access s u [] := by
  obtain ⟨c, rest, e, _, rfl⟩ := busCycle_reset.1 h
  exact breakPoint_access e

/-- Where SR does not cut the step, a bus cycle leads to `State.cycled`. -/
theorem busCycle_uncut {s : State} (h : s.uncut) : ∃ d, busCycle s = .ok (s.cycled, d) := by
  unfold busCycle State.cycled
  cases e : s.bus with
  | nil => exact ⟨_, rfl⟩
  | cons c rest =>
    have n : c.cut = false := h c (e ▸ List.mem_cons_self)
    exact ⟨_, by simp only [n]; rfl⟩

theorem cycled_quiet {s : State} (h : s.bus = []) : s.cycled = s := by unfold State.cycled; rw [h]

theorem uncut_quiet {s : State} (h : s.bus = []) : s.uncut := by unfold State.uncut; rw [h]; simp

theorem masterBytes_quiet {s : State} (h : s.bus = []) : masterBytes s = [] := by unfold masterBytes; rw [h]; rfl

/-- A locked or sealed bus has no new cut and no new byte of the bus master. -/
theorem sealRest_access (s : State) : Access s (sealRest s) [] := by
  unfold sealRest
  split
  · exact Access.refl s
  · rename_i c rest h
    refine ⟨rfl, id, ?_, ?_, fun _ _ _ => rfl⟩
    · intro u x m
      simp only [State.setBus_bus, List.mem_cons, List.mem_map] at m
      rcases m with rfl | ⟨y, m, rfl⟩
      · exact u x (h ▸ List.mem_cons_self)
      · exact u y (h ▸ List.mem_cons_of_mem _ m)
    · intro a m
      simp only [masterBytes, State.setBus_bus, h, List.flatMap_cons, List.mem_append, List.mem_flatMap,
        List.mem_map] at m ⊢
      rcases m with m | ⟨_, ⟨y, _, rfl⟩, z, m, _⟩
      · exact .inl m
      · exact absurd m List.not_mem_nil

theorem sealBus_access (s : State) : Access s (sealBus s) [] := by
  refine ⟨rfl, id, ?_, ?_, fun _ _ _ => rfl⟩
  · intro u x m
    simp only [sealBus, State.setBus_bus, List.mem_map] at m
    obtain ⟨y, m, rfl⟩ := m
    exact u y m
  · intro a m
    simp only [masterBytes, sealBus, State.setBus_bus, List.mem_flatMap, List.mem_map] at m
    obtain ⟨_, ⟨y, _, rfl⟩, z, m, _⟩ := m
    exact absurd m List.not_mem_nil

/-- See `sealRest_access`. -/
theorem lockBus_access (s : State) : Access s (lockBus s) [] := by
  unfold lockBus; split
  · exact sealBus_access s
  · exact sealRest_access s

/-! One byte access of the CPU. -/

/-- A read answers the byte found behind its break-point, and takes its place in the trace. -/
theorem readByte_ok {s t : State} {a : Addr} {v : Byte} :
    readByte s a = .ok (v, t) ↔ ∃ u d, busCycle s = .ok (u, d) ∧ u.found d a = some v ∧
      t = u.record (.read a v) := by
  unfold readByte
  cases h : busCycle s with
  | error e => simp [bind, Except.bind]
  | ok p =>
    obtain ⟨u, d⟩ := p
    simp only [bind, Except.bind]
    cases k : u.found d a with
    | none =>
      simp only [Except.ok.injEq, Prod.mk.injEq]
      constructor
      · intro e; cases e
      · rintro ⟨_, _, ⟨rfl, rfl⟩, e, _⟩; rw [k] at e; cases e
    | some w =>
      simp only [Except.ok.injEq, Prod.mk.injEq]
      constructor
      · rintro ⟨rfl, rfl⟩; exact ⟨u, d, ⟨rfl, rfl⟩, k, rfl⟩
      · rintro ⟨_, _, ⟨rfl, rfl⟩, e, rfl⟩; rw [k] at e; cases e; exact ⟨rfl, rfl⟩

/-- A read changes only what its break-point changes. -/
theorem readByte_access {s t : State} {a : Addr} {v : Byte} (h : readByte s a = .ok (v, t)) :
    Access s t [] := by
  obtain ⟨u, d, h1, _, rfl⟩ := readByte_ok.1 h
  exact (busCycle_access h1).trans (record_access _ _)

/-- A read is cut where its bus cycle is. -/
theorem readByte_reset {s u : State} {a : Addr} :
    readByte s a = .error (.reset u) ↔ busCycle s = .error (.reset u) := by
  unfold readByte
  cases h : busCycle s with
  | error e => simp [bind, Except.bind]
  | ok p =>
    obtain ⟨w, d⟩ := p
    simp only [bind, Except.bind]
    cases w.found d a <;> simp

/-- A write answers: the memory behind the break-point does with the byte what it does. -/
theorem writeByte_ok {s t : State} {a : Addr} {v : Byte} :
    writeByte s a v = .ok t ↔ ∃ u d, busCycle s = .ok (u, d) ∧ t = (u.hold a v).record (.write a v) := by
  unfold writeByte
  cases busCycle s with
  | error e => simp [bind, Except.bind]
  | ok p =>
    obtain ⟨u, d⟩ := p
    simp [bind, Except.bind, eq_comm]

/-- A write stores to its address, and changes what its break-point changes. -/
theorem writeByte_access {s t : State} {a : Addr} {v : Byte} (h : writeByte s a v = .ok t) :
    Access s t [a] := by
  obtain ⟨u, d, h1, rfl⟩ := writeByte_ok.1 h
  exact ((busCycle_access h1).trans ((hold_access u a v).trans (record_access _ _))).mono (by simp)

/-- A write is cut where its bus cycle is, and stops for no other reason. -/
theorem writeByte_error {s : State} {a : Addr} {v : Byte} {e : Stop} :
    writeByte s a v = .error e ↔ ∃ u, e = .reset u ∧ busCycle s = .error (.reset u) := by
  unfold writeByte
  cases h : busCycle s with
  | error x =>
    cases x with
    | fault f => exact absurd h busCycle_fault
    | reset u => simp [bind, Except.bind, eq_comm]
  | ok p => simp [bind, Except.bind]

/-- Where SR does not cut the step, a write leads to `State.put`. -/
theorem writeByte_uncut {s : State} (h : s.uncut) (a : Addr) (v : Byte) : writeByte s a v = .ok (s.put a v) := by
  obtain ⟨d, e⟩ := busCycle_uncut h
  exact writeByte_ok.2 ⟨_, d, e, rfl⟩

theorem put_access {s : State} (h : s.uncut) (a : Addr) (v : Byte) : Access s (s.put a v) [a] :=
  writeByte_access (writeByte_uncut h a v)

/-- A byte written to RAM reads back where nothing comes between. -/
theorem readByte_writeByte {s t : State} {a : Addr} {v : Byte} (k : s.kindAt a = .ram)
    (h : writeByte s a v = .ok t) (q : t.bus = []) : readByte t a = .ok (v, t.record (.read a v)) := by
  obtain ⟨u, d, h1, rfl⟩ := writeByte_ok.1 h
  have ku : u.kindAt a = .ram := (busCycle_access h1).kindAt a ▸ k
  refine readByte_ok.2 ⟨_, none, busCycle_ok.2 (.inl ⟨q, rfl, rfl⟩), ?_, rfl⟩
  have kt : ((u.hold a v).record (.write a v)).kindAt a = .ram := by
    rw [← ku]; simp [State.kindAt]
  have e := hold_byteAt u a a v ku
  simp only [State.found, kt]
  simpa [State.byteAt] using e

/-- Placing bytes keeps the canonical form. -/
theorem placeBytes_wf (l : List Byte) (s : State) (a : Word) (w : s.mem.wf = true) :
    (placeBytes s l a).mem.wf = true := by
  induction l generalizing s a with
  | nil => exact w
  | cons b l ih => exact ih _ _ (store_wf _ _ w)

end Sys2Proof.Machine
end

