-- ==== Sys2Proof/Laws/Ops.lean ====
section
/-! SUPPORT. One lemma per shared operation that says everything it can do when it answers a next state, what it leaves where it ends early, and what it answers where SR does not; the meanings' operations are in Laws/Meanings.lean. -/

namespace Sys2Proof.Machine

/-! Sequences and outcomes. -/

/-- A sequence answers exactly when both parts do. -/
theorem bind_ok {α β : Type} {x : Result α} {f : α → Result β} {v : β} :
    (x >>= f) = .ok v ↔ ∃ u, x = .ok u ∧ f u = .ok v := by
  cases x with
  | error e => simp [bind, Except.bind]
  | ok u => simp [bind, Except.bind]

/-- A sequence stops where its first part does, or its second. -/
theorem bind_error {α β : Type} {x : Result α} {f : α → Result β} {e : Stop} :
    (x >>= f) = .error e ↔ x = .error e ∨ ∃ u, x = .ok u ∧ f u = .error e := by
  cases x with
  | error e => simp [bind, Except.bind]
  | ok u => simp [bind, Except.bind]

/-- A meaning answers next when its operation answers, or is cut: then the CPU is reset (R704). -/
theorem conclude_next {r : Result State} {t : State} :
    conclude r = .next t ↔ r = .ok t ∨ ∃ u, r = .error (.reset u) ∧ t = resetAssert u := by
  cases r with
  | error e => cases e <;> simp [conclude, eq_comm (b := t)]
  | ok u => simp [conclude]

/-- A meaning faults exactly when its operation does. -/
theorem conclude_fault {r : Result State} {f : Fault} : conclude r = .fault f ↔ r = .error (.fault f) := by
  cases r with
  | error e => cases e <;> simp [conclude]
  | ok u => simp [conclude]

/-- No meaning refuses. -/
theorem conclude_refused {r : Result State} {x : Refusal} : conclude r ≠ .refused x := by
  cases r with
  | error e => cases e <;> simp [conclude]
  | ok u => simp [conclude]

/-- On a model that has the unit, the instruction runs. -/
theorem requires_met {n : Need} {s : State} (h : n.metBy s.cfg.model = true) (r : Result State) :
    requires n s r = r := by
  cases n <;> simp_all [Need.metBy, requires]

/-- On a model that lacks the unit, it stops, whatever it would do: with the fault of U3 or with that of U4. -/
theorem requires_unmet {n : Need} {s : State} (h : n.metBy s.cfg.model = false) (r : Result State) :
    n = .mulDiv ∧ requires n s r = .error (.fault (.noMulDiv s)) ∨
      n = .expansion ∧ requires n s r = .error (.fault (.noExpansion s)) := by
  cases n <;> simp_all [Need.metBy, requires]

/-! What an operation leaves. -/

/-- What every operation keeps: the canonical form, the device, the latch of NMI and the hold-off, that no zero division waits, and that the status is neither the transitive one nor reset. -/
structure Keeps (s t : State) : Prop where
  wf : s.mem.wf = true → t.mem.wf = true
  cfg : t.cfg = s.cfg
  nmi : t.nmiPending = s.nmiPending
  holdoff : t.intHoldoff = s.intHoldoff
  zdiv : s.zdivPending = false → t.zdivPending = false
  settled : s.status ≠ .exception → t.status ≠ .exception
  started : s.status ≠ .reset → t.status ≠ .reset

theorem Keeps.refl (s : State) : Keeps s s := ⟨id, rfl, rfl, rfl, id, id, id⟩

theorem Keeps.trans {s t u : State} (h : Keeps s t) (k : Keeps t u) : Keeps s u :=
  ⟨fun w => k.wf (h.wf w), k.cfg.trans h.cfg, k.nmi.trans h.nmi, k.holdoff.trans h.holdoff,
    fun w => k.zdiv (h.zdiv w), fun w => k.settled (h.settled w), fun w => k.started (h.started w)⟩

/-- A state that differs in other fields only. -/
theorem Keeps.of_same {s t : State} (m : t.mem = s.mem) (c : t.cfg = s.cfg) (n : t.nmiPending = s.nmiPending)
    (h : t.intHoldoff = s.intHoldoff) (z : t.zdivPending = s.zdivPending) (x : t.status = s.status) :
    Keeps s t :=
  ⟨fun w => m ▸ w, c, n, h, fun w => z ▸ w, fun w => x ▸ w, fun w => x ▸ w⟩

theorem Access.keeps {s t : State} {x : List Addr} (h : Access s t x) : Keeps s t :=
  have z : t.zdivPending = s.zdivPending := h.same State.zdivPending fun _ _ _ _ => rfl
  have y : t.status = s.status := h.same State.status fun _ _ _ _ => rfl
  ⟨h.wf, h.cfg, h.same State.nmiPending fun _ _ _ _ => rfl, h.same State.intHoldoff fun _ _ _ _ => rfl,
    fun w => z ▸ w, fun w => y ▸ w, fun w => y ▸ w⟩

theorem setSp_keeps (s : State) (v : Word) : Keeps s (s.setSp v) := .of_same rfl rfl rfl rfl rfl rfl
theorem setPc_keeps (s : State) (v : Word) : Keeps s (s.setPc v) := .of_same rfl rfl rfl rfl rfl rfl
theorem setSc_keeps (s : State) (v : Byte) : Keeps s (s.setSc v) := .of_same rfl rfl rfl rfl rfl rfl
theorem setFlag_keeps (s : State) (f : Flag) (v : Bool) : Keeps s (s.setFlag f v) :=
  .of_same rfl rfl rfl rfl rfl rfl
theorem setNVCZ_keeps {w : Nat} (s : State) (r : Alu w) : Keeps s (s.setNVCZ r) :=
  .of_same rfl rfl rfl rfl rfl rfl
theorem setNZ_keeps (s : State) (v : Byte) : Keeps s (s.setNZ v) := .of_same rfl rfl rfl rfl rfl rfl
theorem set8_keeps (s : State) (r : Reg8) (v : Byte) : Keeps s (s.set8 r v) := by
  apply Keeps.of_same <;> simp
theorem set16_keeps (s : State) (r : Reg16) (v : Word) : Keeps s (s.set16 r v) := by
  apply Keeps.of_same <;> simp
theorem branch_keeps (v : Word) (s : State) : Keeps s (branch v s) := by apply Keeps.of_same <;> simp
theorem noBranch_keeps (s : State) : Keeps s (noBranch s) := by apply Keeps.of_same <;> simp

/-- Through the exception processing status, entered in `t` and left at the end. -/
theorem Keeps.through_exception {s t u : State} (m : t.mem = s.mem) (c : t.cfg = s.cfg)
    (n : t.nmiPending = s.nmiPending) (h : t.intHoldoff = s.intHoldoff) (z : t.zdivPending = s.zdivPending)
    (k : Keeps t u) : Keeps s (u.setStatus .run) :=
  ⟨fun w => k.wf (m ▸ w), k.cfg.trans c, k.nmi.trans n, k.holdoff.trans h, fun w => k.zdiv (z ▸ w),
    fun _ => by simp, fun _ => by simp⟩

/-- What even an operation that ends early leaves: the canonical form, the device, that no zero division waits. -/
structure Leaves (s t : State) : Prop where
  wf : s.mem.wf = true → t.mem.wf = true
  cfg : t.cfg = s.cfg
  zdiv : s.zdivPending = false → t.zdivPending = false

theorem Leaves.refl (s : State) : Leaves s s := ⟨id, rfl, id⟩

theorem Leaves.trans {s t u : State} (h : Leaves s t) (k : Leaves t u) : Leaves s u :=
  ⟨fun w => k.wf (h.wf w), k.cfg.trans h.cfg, fun w => k.zdiv (h.zdiv w)⟩

theorem Keeps.leaves {s t : State} (h : Keeps s t) : Leaves s t := ⟨h.wf, h.cfg, h.zdiv⟩

theorem setStatus_leaves (s : State) (v : Status) : Leaves s (s.setStatus v) := ⟨id, rfl, id⟩
theorem acknowledge_leaves (s : State) : Leaves s (acknowledge s) := ⟨id, rfl, id⟩

/-- Where the operation ends early, by a fault or a reset, it leaves that. -/
def StopLeaves {α : Type} (s : State) (r : Result α) : Prop := ∀ e, r = .error e → Leaves s e.state

theorem stopLeaves_ok {α : Type} (s : State) (v : α) : StopLeaves s (.ok v) := fun _ e => by cases e

/-- A fault raised on the spot. -/
theorem stopLeaves_fault {α : Type} {s : State} {f : Fault} (h : f.state = s) :
    StopLeaves s (.error (.fault f) : Result α) := fun _ e => by cases e; exact h ▸ Leaves.refl _

/-- Through a sequence. -/
theorem StopLeaves.bind {α β : Type} {s : State} {x : Result α} {f : α → Result β} (h : StopLeaves s x)
    (k : ∀ v, x = .ok v → StopLeaves s (f v)) : StopLeaves s (x >>= f) := by
  intro u e
  rcases bind_error.1 e with e | ⟨v, e1, e2⟩
  · exact h u e
  · exact k v e1 u e2

/-- From a later state. -/
theorem StopLeaves.after {α : Type} {s t : State} {r : Result α} (h : Leaves s t) (k : StopLeaves t r) :
    StopLeaves s r := fun u e => h.trans (k u e)

/-- See `StopLeaves.after`. -/
theorem StopLeaves.from {α : Type} {s t : State} {r : Result α} (h : Keeps s t) (k : StopLeaves t r) :
    StopLeaves s r := k.after h.leaves

theorem busCycle_stop (s : State) : StopLeaves s (busCycle s) := fun e h => by
  cases e with
  | fault f => exact absurd h busCycle_fault
  | reset u => exact (busCycle_reset_access h).keeps.leaves

@[simp] theorem readFault_state (s : State) (a : Addr) : (s.readFault a).state = s := by
  unfold State.readFault; cases s.kindAt a <;> rfl

theorem readByte_stop (s : State) (a : Addr) : StopLeaves s (readByte s a) := by
  refine (busCycle_stop s).bind fun v h => StopLeaves.from (busCycle_access h).keeps ?_
  dsimp only
  split
  · exact stopLeaves_ok _ _
  · exact stopLeaves_fault (readFault_state _ _)

/-- A read that faults where nothing comes from the outside stops in the state it was given. -/
theorem readByte_fault_quiet {s : State} {a : Addr} {f : Fault} (b : s.bus = [])
    (h : readByte s a = .error (.fault f)) : f.state = s := by
  have q : busCycle s = .ok (s, none) := by unfold busCycle; rw [b]
  simp only [readByte, q, bind, Except.bind] at h
  split at h
  · cases h
  · cases h; simp

theorem writeByte_stop (s : State) (a : Addr) (v : Byte) : StopLeaves s (writeByte s a v) :=
  (busCycle_stop s).bind fun _ _ => stopLeaves_ok _ _

/-! Words in memory. -/

/-- A word is read byte by byte. -/
theorem readWord_ok {s t : State} {page : Byte} {a v : Word} :
    readWord s page a = .ok (v, t) ↔ ∃ lo hi u, readByte s (dataAddr s page a) = .ok (lo, u) ∧
      readByte u (dataAddr u page (a + 1#16)) = .ok (hi, t) ∧ v = pair hi lo := by
  simp only [readWord, bind_ok, Prod.exists, Except.ok.injEq, Prod.mk.injEq]
  constructor
  · rintro ⟨lo, u, h1, hi, w, h2, rfl, rfl⟩; exact ⟨lo, hi, u, h1, h2, rfl⟩
  · rintro ⟨lo, hi, u, h1, h2, rfl⟩; exact ⟨lo, u, h1, hi, t, h2, rfl, rfl⟩

theorem readWord_access {s t : State} {page : Byte} {a v : Word} (h : readWord s page a = .ok (v, t)) :
    Access s t [] := by
  obtain ⟨lo, hi, u, h1, h2, _⟩ := readWord_ok.1 h
  exact (readByte_access h1).trans (readByte_access h2)

theorem readWord_stop (s : State) (page : Byte) (a : Word) : StopLeaves s (readWord s page a) :=
  (readByte_stop _ _).bind fun _ h => ((readByte_stop _ _).bind fun _ _ => stopLeaves_ok _ _).from
    (readByte_access h).keeps

/-- A word is written byte by byte, low byte first. -/
theorem writeWord_ok {s t : State} {page : Byte} {a v : Word} :
    writeWord s page a v = .ok t ↔ ∃ u, writeByte s (dataAddr s page a) (loByte v) = .ok u ∧
      writeByte u (dataAddr u page (a + 1#16)) (hiByte v) = .ok t := by
  simp only [writeWord, bind_ok]

theorem dataAddr_cfg {s t : State} (h : t.cfg = s.cfg) (page : Byte) (a : Word) :
    dataAddr t page a = dataAddr s page a := by
  unfold dataAddr; rw [h]

theorem writeWord_access {s t : State} {page : Byte} {a v : Word} (h : writeWord s page a v = .ok t) :
    Access s t [dataAddr s page a, dataAddr s page (a + 1#16)] := by
  obtain ⟨u, h1, h2⟩ := writeWord_ok.1 h
  have k := (writeByte_access h1).trans (writeByte_access h2)
  rw [dataAddr_cfg (writeByte_access h1).cfg] at k
  exact k

theorem writeWord_stop (s : State) (page : Byte) (a v : Word) : StopLeaves s (writeWord s page a v) :=
  (writeByte_stop _ _ _).bind fun _ h => (writeByte_stop _ _ _).from (writeByte_access h).keeps

/-- Where SR does not cut the step, a word write leads to `State.putWord`. -/
theorem writeWord_uncut {s : State} (h : s.uncut) (page : Byte) (a v : Word) :
    writeWord s page a v = .ok (s.putWord page a v) := by
  refine writeWord_ok.2 ⟨_, writeByte_uncut h _ _, ?_⟩
  rw [writeByte_uncut ((put_access h _ _).uncut h), dataAddr_cfg (put_access h _ _).cfg]
  rfl

/-! The stack. -/

/-- A push writes below SP, then SP is one less. -/
theorem push8_ok {s t : State} {v : Byte} :
    push8 v s = .ok t ↔ writeByte (s.setSp (s.sp - 1#16)) (stackAddr s (s.sp - 1#16)) v = .ok t := Iff.rfl

theorem push8_access {s t : State} {v : Byte} (h : push8 v s = .ok t) :
    Access (s.setSp (s.sp - 1#16)) t [stackAddr s (s.sp - 1#16)] := writeByte_access h

theorem push8_stop (v : Byte) (s : State) : StopLeaves s (push8 v s) :=
  (writeByte_stop (s.setSp (s.sp - 1#16)) _ _).from (setSp_keeps _ _)

/-- Where SR does not cut the step, a push answers. -/
theorem push8_uncut {s : State} (h : s.uncut) (v : Byte) : push8 v s = .ok (pushed [v] s) :=
  writeByte_uncut (s := s.setSp (s.sp - 1#16)) h _ v

/-- A pop reads at SP, then SP is one more. -/
theorem pop8_ok {s t : State} {v : Byte} :
    pop8 s = .ok (v, t) ↔ ∃ u, readByte s (stackAddr s s.sp) = .ok (v, u) ∧ t = u.setSp (u.sp + 1#16) := by
  simp only [pop8, bind_ok, Prod.exists, Except.ok.injEq, Prod.mk.injEq]
  constructor
  · rintro ⟨w, u, h, rfl, rfl⟩; exact ⟨u, h, rfl⟩
  · rintro ⟨u, h, rfl⟩; exact ⟨v, u, h, rfl, rfl⟩

theorem pop8_access {s t : State} {v : Byte} (h : pop8 s = .ok (v, t)) :
    Access (s.setSp (s.sp + 1#16)) t [] := by
  obtain ⟨u, h1, rfl⟩ := pop8_ok.1 h
  have k := readByte_access h1
  have e : u.sp = s.sp := k.same State.sp fun _ _ _ _ => rfl
  refine ⟨?_, k.wf, k.uncut, k.master, k.other⟩
  rw [e]
  exact congrArg (·.setSp (s.sp + 1#16)) k.only

theorem pop8_keeps {s t : State} {v : Byte} (h : pop8 s = .ok (v, t)) : Keeps s t :=
  (setSp_keeps _ _).trans (pop8_access h).keeps

theorem pop8_stop (s : State) : StopLeaves s (pop8 s) := (readByte_stop _ _).bind fun _ _ => stopLeaves_ok _ _

theorem push8_keeps {s t : State} {v : Byte} (h : push8 v s = .ok t) : Keeps s t :=
  (setSp_keeps _ _).trans (push8_access h).keeps

/-- A 16-bit push is the push of the upper byte, then of the lower. -/
theorem push16_ok {s t : State} {v : Word} :
    push16 v s = .ok t ↔ ∃ u, push8 (hiByte v) s = .ok u ∧ push8 (loByte v) u = .ok t := by
  simp only [push16, bind_ok]

theorem push16_keeps {s t : State} {v : Word} (h : push16 v s = .ok t) : Keeps s t := by
  obtain ⟨u, h1, h2⟩ := push16_ok.1 h
  exact (push8_keeps h1).trans (push8_keeps h2)

theorem push16_stop (v : Word) (s : State) : StopLeaves s (push16 v s) :=
  (push8_stop _ _).bind fun _ h => (push8_stop _ _).from (push8_keeps h)

/-- A 16-bit pop is the pop of the lower byte, then of the upper. -/
theorem pop16_ok {s t : State} {v : Word} :
    pop16 s = .ok (v, t) ↔ ∃ lo u hi, pop8 s = .ok (lo, u) ∧ pop8 u = .ok (hi, t) ∧ v = pair hi lo := by
  simp only [pop16, bind_ok, Prod.exists, Except.ok.injEq, Prod.mk.injEq]
  constructor
  · rintro ⟨lo, u, h1, hi, w, h2, rfl, rfl⟩; exact ⟨lo, u, hi, h1, h2, rfl⟩
  · rintro ⟨lo, u, hi, h1, h2, rfl⟩; exact ⟨lo, u, h1, hi, t, h2, rfl, rfl⟩

theorem pop16_keeps {s t : State} {v : Word} (h : pop16 s = .ok (v, t)) : Keeps s t := by
  obtain ⟨lo, u, hi, h1, h2, _⟩ := pop16_ok.1 h
  exact (pop8_keeps h1).trans (pop8_keeps h2)

theorem pop16_stop (s : State) : StopLeaves s (pop16 s) :=
  (pop8_stop _).bind fun _ h => ((pop8_stop _).bind fun _ _ => stopLeaves_ok _ _).from (pop8_keeps h)

/-! Calls, returns, exceptions. -/

/-- A call frame: CB in the maximum mode, then PC. -/
theorem callPush_ok {s t : State} :
    callPush s = .ok t ↔
      if s.cfg.maxMode then ∃ u, push8 s.cb s = .ok u ∧ push16 u.pc u = .ok t else push16 s.pc s = .ok t := by
  unfold callPush
  split <;> simp only [bind_ok]

theorem callPush_keeps {s t : State} (h : callPush s = .ok t) : Keeps s t := by
  have h := callPush_ok.1 h
  split at h
  · obtain ⟨u, h1, h2⟩ := h; exact (push8_keeps h1).trans (push16_keeps h2)
  · exact push16_keeps h

theorem callPush_stop (s : State) : StopLeaves s (callPush s) := by
  unfold callPush
  split
  · exact (push8_stop _ _).bind fun _ h => (push16_stop _ _).from (push8_keeps h)
  · exact push16_stop _ _

/-- A return takes PC, and in the maximum mode CB and NB, from the stack. -/
theorem retPop_ok {s t : State} :
    retPop s = .ok t ↔ ∃ ret u, pop16 s = .ok (ret, u) ∧
      if s.cfg.maxMode then
        ∃ bank w, pop8 (u.setPc ret) = .ok (bank, w) ∧ t = (w.setCb bank).setNb bank
      else t = u.setPc ret := by
  simp only [retPop, bind_ok, Prod.exists]
  constructor
  · rintro ⟨ret, u, h1, h2⟩
    refine ⟨ret, u, h1, ?_⟩
    split at h2 <;> rename_i m
    · rw [if_pos m]
      obtain ⟨⟨bank, w⟩, h3, h4⟩ := bind_ok.1 h2
      exact ⟨bank, w, h3, (Except.ok.inj h4).symm⟩
    · rw [if_neg m]
      exact (Except.ok.inj h2).symm
  · rintro ⟨ret, u, h1, h2⟩
    refine ⟨ret, u, h1, ?_⟩
    split at h2 <;> rename_i m
    · rw [if_pos m]
      obtain ⟨bank, w, h3, rfl⟩ := h2
      exact bind_ok.2 ⟨(bank, w), h3, rfl⟩
    · rw [if_neg m, h2]

theorem retPop_keeps {s t : State} (h : retPop s = .ok t) : Keeps s t := by
  obtain ⟨ret, u, h1, h2⟩ := retPop_ok.1 h
  refine (pop16_keeps h1).trans ?_
  split at h2
  · obtain ⟨bank, w, h3, rfl⟩ := h2
    exact (setPc_keeps _ _).trans ((pop8_keeps h3).trans (.of_same rfl rfl rfl rfl rfl rfl))
  · subst h2; exact setPc_keeps _ _

theorem retPop_stop (s : State) : StopLeaves s (retPop s) := by
  refine (pop16_stop s).bind fun v h => ?_
  refine StopLeaves.from ((pop16_keeps h).trans (setPc_keeps v.2 v.1)) ?_
  dsimp only
  split
  · exact (pop8_stop _).bind fun _ _ => stopLeaves_ok _ _
  · exact stopLeaves_ok _ _

/-- An exception frame is a call frame and SC. -/
theorem pushFrame_ok {s t : State} :
    pushFrame s = .ok t ↔ ∃ u, callPush s = .ok u ∧ push8 u.sc u = .ok t := by
  simp only [pushFrame, bind_ok]

theorem pushFrame_keeps {s t : State} (h : pushFrame s = .ok t) : Keeps s t := by
  obtain ⟨u, h1, h2⟩ := pushFrame_ok.1 h
  exact (callPush_keeps h1).trans (push8_keeps h2)

theorem pushFrame_stop (s : State) : StopLeaves s (pushFrame s) :=
  (callPush_stop _).bind fun _ h => (push8_stop _ _).from (callPush_keeps h)

/-- The mask update changes SC only. -/
theorem mask_sc (f : Factor) (s : State) : f.mask s = s.setSc (f.mask s).sc := by cases f <;> rfl

theorem mask_keeps (f : Factor) (s : State) : Keeps s (f.mask s) := by rw [mask_sc]; exact setSc_keeps _ _

/-- Exception entry: with the bus locked the frame, SC by the mask table, PC from the vector, CB from NB, status run. -/
theorem exceptionEntry_ok {f : Factor} {s t : State} :
    exceptionEntry f s = .ok t ↔ ∃ u v w, pushFrame (acknowledge (lockBus s)) = .ok u ∧
      readVector (f.mask u) (f.vector (f.mask u)) = .ok (v, w) ∧ t = (branch v w).setStatus .run := by
  simp only [exceptionEntry, bind_ok, Prod.exists, Except.ok.injEq, eq_comm (b := t)]
  constructor
  · rintro ⟨u, h1, v, w, h2, e⟩; exact ⟨u, v, w, h1, h2, e⟩
  · rintro ⟨u, v, w, h1, h2, e⟩; exact ⟨u, h1, v, w, h2, e⟩

theorem exceptionEntry_keeps {f : Factor} {s t : State} (h : exceptionEntry f s = .ok t) :
    Keeps s t ∧ t.status = .run := by
  obtain ⟨u, v, w, h1, h2, rfl⟩ := exceptionEntry_ok.1 h
  exact ⟨(lockBus_access s).keeps.trans (.through_exception (t := acknowledge (lockBus s)) rfl rfl rfl rfl rfl
    ((pushFrame_keeps h1).trans
    ((mask_keeps f u).trans ((readWord_access h2).keeps.trans (branch_keeps v w))))), rfl⟩

theorem exceptionEntry_stop (f : Factor) (s : State) : StopLeaves s (exceptionEntry f s) := by
  refine StopLeaves.after ((lockBus_access s).keeps.leaves.trans (acknowledge_leaves _))
    ((pushFrame_stop _).bind fun u h => ?_)
  exact StopLeaves.from ((pushFrame_keeps h).trans (mask_keeps f u))
    ((readWord_stop _ _ _).bind fun _ _ => stopLeaves_ok _ _)

/-- Return from an exception: SC, then a plain return. -/
theorem exceptionReturn_ok {s t : State} :
    exceptionReturn s = .ok t ↔ ∃ sc u, pop8 s = .ok (sc, u) ∧ retPop (u.setSc sc) = .ok t := by
  simp only [exceptionReturn, bind_ok, Prod.exists]

theorem exceptionReturn_keeps {s t : State} (h : exceptionReturn s = .ok t) : Keeps s t := by
  obtain ⟨sc, u, h1, h2⟩ := exceptionReturn_ok.1 h
  exact (pop8_keeps h1).trans ((setSc_keeps _ _).trans (retPop_keeps h2))

theorem exceptionReturn_stop (s : State) : StopLeaves s (exceptionReturn s) :=
  (pop8_stop _).bind fun v h => StopLeaves.from
    ((pop8_keeps h).trans (setSc_keeps v.2 v.1)) (retPop_stop _)

/-- The reset exception processing: PC from the vector, CB from NB, status run; nothing pushed. -/
theorem resetRelease_ok {s t : State} :
    resetRelease s = .ok t ↔ ∃ v w, readVector (acknowledge (sealBus s)) 0x00#8 = .ok (v, w) ∧
      t = (branch v w).setStatus .run := by
  simp only [resetRelease, bind_ok, Prod.exists, Except.ok.injEq, eq_comm (b := t)]

theorem resetRelease_keeps {s t : State} (h : resetRelease s = .ok t) : Keeps s t ∧ t.status = .run := by
  obtain ⟨v, w, h1, rfl⟩ := resetRelease_ok.1 h
  exact ⟨(sealBus_access s).keeps.trans (.through_exception (t := acknowledge (sealBus s)) rfl rfl rfl rfl rfl
    ((readWord_access h1).keeps.trans (branch_keeps v w))), rfl⟩

theorem resetRelease_stop (s : State) : StopLeaves s (resetRelease s) :=
  StopLeaves.after ((sealBus_access s).keeps.leaves.trans (acknowledge_leaves _))
    ((readWord_stop _ _ _).bind fun _ _ => stopLeaves_ok _ _)

/-- Reset leaves memory, parameters, inputs and the bus. -/
theorem resetAssert_frame (s : State) :
    (resetAssert s).mem = s.mem ∧ (resetAssert s).cfg = s.cfg ∧ (resetAssert s).pins = s.pins ∧
      (resetAssert s).schedule = s.schedule ∧ (resetAssert s).bus = s.bus ∧
      (resetAssert s).trace = s.trace ∧ (resetAssert s).status = .reset := by
  unfold resetAssert; split <;> exact ⟨rfl, rfl, rfl, rfl, rfl, rfl, rfl⟩

/-! Operands. -/

/-- A read of a location: a register, or one bus cycle. -/
theorem read8_access {src : Loc8} {s t : State} {v : Byte} (h : src.read s = .ok (v, t)) : Access s t [] := by
  cases src with
  | reg r => cases h; exact Access.refl _
  | mem m => exact readByte_access h

/-- A read of a source: a register, a constant, or one bus cycle. -/
theorem source8_access {src : Src8} {s t : State} {v : Byte} (h : src.read s = .ok (v, t)) : Access s t [] := by
  cases src with
  | reg r => cases h; exact Access.refl _
  | mem m => exact readByte_access h
  | imm n => cases h; exact Access.refl _

/-- A read of a 16-bit source: a register, a constant, or two bus cycles. -/
theorem source16_access {src : Src16} {s t : State} {v : Word} (h : src.read s = .ok (v, t)) :
    Access s t [] := by
  cases src with
  | reg r => cases h; exact Access.refl _
  | mem m => exact readWord_access h
  | imm n => cases h; exact Access.refl _
  | pc => cases h; exact Access.refl _

theorem read8_stop (src : Loc8) (s : State) : StopLeaves s (src.read s) := by
  cases src with
  | reg r => exact stopLeaves_ok _ _
  | mem m => exact readByte_stop _ _

theorem source8_stop (src : Src8) (s : State) : StopLeaves s (src.read s) := by
  cases src with
  | reg r => exact stopLeaves_ok _ _
  | mem m => exact readByte_stop _ _
  | imm n => exact stopLeaves_ok _ _

theorem source16_stop (src : Src16) (s : State) : StopLeaves s (src.read s) := by
  cases src with
  | reg r => exact stopLeaves_ok _ _
  | mem m => exact readWord_stop _ _ _
  | imm n => exact stopLeaves_ok _ _
  | pc => exact stopLeaves_ok _ _

/-- A write to an operand: a register, or one bus cycle. -/
theorem write8_ok {dst : Loc8} {v : Byte} {s t : State} (h : dst.write v s = .ok t) :
    (∃ r, dst = .reg r ∧ t = s.set8 r v) ∨ (∃ m, dst = .mem m ∧ writeByte s (m.ea s) v = .ok t) := by
  cases dst with
  | reg r => exact .inl ⟨r, rfl, (Except.ok.inj h).symm⟩
  | mem m => exact .inr ⟨m, rfl, h⟩

/-- Where SR does not cut the step, a write to an operand answers. -/
theorem write8_uncut {dst : Loc8} {s : State} (h : s.uncut) (v : Byte) : dst.write v s = .ok (dst.put v s) := by
  cases dst with
  | reg r => rfl
  | mem m => exact writeByte_uncut h _ _

theorem write8_keeps {dst : Loc8} {v : Byte} {s t : State} (h : dst.write v s = .ok t) : Keeps s t := by
  rcases write8_ok h with ⟨r, _, rfl⟩ | ⟨m, _, h⟩
  · exact set8_keeps _ _ _
  · exact (writeByte_access h).keeps

theorem write8_stop (dst : Loc8) (v : Byte) (s : State) : StopLeaves s (dst.write v s) := by
  cases dst with
  | reg r => exact stopLeaves_ok _ _
  | mem m => exact writeByte_stop _ _ _

/-- A 16-bit write to an operand: a register, or two bus cycles. -/
theorem write16_ok {dst : Loc16} {v : Word} {s t : State} (h : dst.write v s = .ok t) :
    (∃ r, dst = .reg r ∧ t = s.set16 r v) ∨
      (∃ m, dst = .mem m ∧ writeWord s (m.page s) (m.offset s) v = .ok t) := by
  cases dst with
  | reg r => exact .inl ⟨r, rfl, (Except.ok.inj h).symm⟩
  | mem m => exact .inr ⟨m, rfl, h⟩

/-- Where SR does not cut the step, it answers. -/
theorem write16_uncut {dst : Loc16} {s : State} (h : s.uncut) (v : Word) :
    dst.write v s = .ok (dst.put v s) := by
  cases dst with
  | reg r => rfl
  | mem m => exact writeWord_uncut h _ _ _

theorem write16_keeps {dst : Loc16} {v : Word} {s t : State} (h : dst.write v s = .ok t) : Keeps s t := by
  rcases write16_ok h with ⟨r, _, rfl⟩ | ⟨m, _, h⟩
  · exact set16_keeps _ _ _
  · exact (writeWord_access h).keeps

theorem write16_stop (dst : Loc16) (v : Word) (s : State) : StopLeaves s (dst.write v s) := by
  cases dst with
  | reg r => exact stopLeaves_ok _ _
  | mem m => exact writeWord_stop _ _ _ _

end Sys2Proof.Machine
end

