-- ==== Sys2Proof/Laws/Meanings.lean ====
section
/-! SUPPORT. For each operation that meanings share, one lemma that says everything it can do when it answers a next state. -/

namespace Sys2Proof.Machine

variable {s t : State}

/-! 8-bit arithmetic and logic. -/

theorem arith8_ok {op : ArithOp} {dst : Loc8} {src : Src8} :
    arith8 op dst src s = .ok t ↔ ∃ b s1 a s2 u, src.read s = .ok (b, s1) ∧ dst.read s1 = .ok (a, s2) ∧
      dst.write ((op.on8 s2 a b).value) s2 = .ok u ∧ t = u.setNVCZ (op.on8 s2 a b) := by
  simp only [arith8, bind_ok, Prod.exists, Except.ok.injEq, eq_comm (b := t)]
  constructor
  · rintro ⟨b, s1, h1, a, s2, h2, u, h3, e⟩; exact ⟨b, s1, a, s2, u, h1, h2, h3, e⟩
  · rintro ⟨b, s1, a, s2, u, h1, h2, h3, e⟩; exact ⟨b, s1, h1, a, s2, h2, u, h3, e⟩

theorem compare8_ok {dst : Loc8} {src : Src8} :
    compare8 dst src s = .ok t ↔ ∃ b s1 a s2, src.read s = .ok (b, s1) ∧ dst.read s1 = .ok (a, s2) ∧
      t = s2.setNVCZ (subBits a b false) := by
  simp only [compare8, bind_ok, Prod.exists, Except.ok.injEq, eq_comm (b := t)]
  constructor
  · rintro ⟨b, s1, h1, a, s2, h2, e⟩; exact ⟨b, s1, a, s2, h1, h2, e⟩
  · rintro ⟨b, s1, a, s2, h1, h2, e⟩; exact ⟨b, s1, h1, a, s2, h2, e⟩

theorem inc8_ok {loc : Loc8} :
    inc8 loc s = .ok t ↔ ∃ x s1 u, loc.read s = .ok (x, s1) ∧ loc.write (x + 1#8) s1 = .ok u ∧
      t = u.setFlag .z (x + 1#8 == 0#8) := by
  simp only [inc8, bind_ok, Prod.exists, Except.ok.injEq, eq_comm (b := t)]
  constructor
  · rintro ⟨x, s1, h1, u, h2, e⟩; exact ⟨x, s1, u, h1, h2, e⟩
  · rintro ⟨x, s1, u, h1, h2, e⟩; exact ⟨x, s1, h1, u, h2, e⟩

theorem dec8_ok {loc : Loc8} :
    dec8 loc s = .ok t ↔ ∃ x s1 u, loc.read s = .ok (x, s1) ∧ loc.write (x - 1#8) s1 = .ok u ∧
      t = u.setFlag .z (x - 1#8 == 0#8) := by
  simp only [dec8, bind_ok, Prod.exists, Except.ok.injEq, eq_comm (b := t)]
  constructor
  · rintro ⟨x, s1, h1, u, h2, e⟩; exact ⟨x, s1, u, h1, h2, e⟩
  · rintro ⟨x, s1, u, h1, h2, e⟩; exact ⟨x, s1, h1, u, h2, e⟩

theorem negate8_ok {loc : Loc8} :
    negate8 loc s = .ok t ↔ ∃ x s1 u, loc.read s = .ok (x, s1) ∧ loc.write ((arithSub s1 0#8 x false).value) s1 = .ok u ∧
      t = u.setNVCZ (arithSub s1 0#8 x false) := by
  simp only [negate8, bind_ok, Prod.exists, Except.ok.injEq, eq_comm (b := t)]
  constructor
  · rintro ⟨x, s1, h1, u, h2, e⟩; exact ⟨x, s1, u, h1, h2, e⟩
  · rintro ⟨x, s1, u, h1, h2, e⟩; exact ⟨x, s1, h1, u, h2, e⟩

theorem multiply_ok :
    multiply s = .ok t ↔ t = (s.set16 .hl (product s.l s.a)).setNVCZ
      { value := product s.l s.a, n := (product s.l s.a).msb, v := false, c := false,
        z := product s.l s.a == 0#16 } := by
  simp only [multiply, Except.ok.injEq, eq_comm (b := t)]

/-- DIV: the zero division exception, the held dividend, or the quotient and the remainder. -/
theorem divide_ok :
    divide s = .ok t ↔
      if s.a = 0#8 then exceptionEntry .zeroDivision ((heldDividend s).setZdivPending false) = .ok t
      else if 255 < s.hl.toNat / s.a.toNat then t = heldDividend s
      else t = ((s.set8 .l (BitVec.ofNat 8 (s.hl.toNat / s.a.toNat))).set8 .h
          (BitVec.ofNat 8 (s.hl.toNat % s.a.toNat))).setNVCZ
        { value := BitVec.ofNat 8 (s.hl.toNat / s.a.toNat),
          n := (BitVec.ofNat 8 (s.hl.toNat / s.a.toNat)).msb, v := false, c := false,
          z := BitVec.ofNat 8 (s.hl.toNat / s.a.toNat) == 0#8 } := by
  unfold divide
  split
  · rfl
  · simp only []
    split
    · rw [Except.ok.injEq, eq_comm]
    · rw [Except.ok.injEq, eq_comm]

theorem logic8_ok {op : LogicOp} {dst : Loc8} {src : Src8} :
    logic8 op dst src s = .ok t ↔ ∃ b s1 a s2 u, src.read s = .ok (b, s1) ∧ dst.read s1 = .ok (a, s2) ∧
      dst.write (op.eval a b) s2 = .ok u ∧ t = u.setNZ (op.eval a b) := by
  simp only [logic8, bind_ok, Prod.exists, Except.ok.injEq, eq_comm (b := t)]
  constructor
  · rintro ⟨b, s1, h1, a, s2, h2, u, h3, e⟩; exact ⟨b, s1, a, s2, u, h1, h2, h3, e⟩
  · rintro ⟨b, s1, a, s2, u, h1, h2, h3, e⟩; exact ⟨b, s1, h1, a, s2, h2, u, h3, e⟩

theorem logicSc_ok {op : LogicOp} {nn : Byte} :
    logicSc op nn s = .ok t ↔ t = s.setSc (op.eval s.sc nn) := by
  simp only [logicSc, Except.ok.injEq, eq_comm (b := t)]

theorem bitTest_ok {dst : Loc8} {src : Src8} :
    bitTest dst src s = .ok t ↔ ∃ b s1 a s2, src.read s = .ok (b, s1) ∧ dst.read s1 = .ok (a, s2) ∧
      t = s2.setNZ (a &&& b) := by
  simp only [bitTest, bind_ok, Prod.exists, Except.ok.injEq, eq_comm (b := t)]
  constructor
  · rintro ⟨b, s1, h1, a, s2, h2, e⟩; exact ⟨b, s1, a, s2, h1, h2, e⟩
  · rintro ⟨b, s1, a, s2, h1, h2, e⟩; exact ⟨b, s1, h1, a, s2, h2, e⟩

theorem complement8_ok {loc : Loc8} :
    complement8 loc s = .ok t ↔ ∃ x s1 u, loc.read s = .ok (x, s1) ∧ loc.write (~~~x) s1 = .ok u ∧
      t = u.setNZ (~~~x) := by
  simp only [complement8, bind_ok, Prod.exists, Except.ok.injEq, eq_comm (b := t)]
  constructor
  · rintro ⟨x, s1, h1, u, h2, e⟩; exact ⟨x, s1, u, h1, h2, e⟩
  · rintro ⟨x, s1, u, h1, h2, e⟩; exact ⟨x, s1, h1, u, h2, e⟩

/-! Transfers. -/

theorem load8_ok {dst : Loc8} {src : Src8} :
    load8 dst src s = .ok t ↔ ∃ v s1, src.read s = .ok (v, s1) ∧ dst.write v s1 = .ok t := by
  simp only [load8, bind_ok, Prod.exists]

theorem exchangeAB_ok : exchangeAB s = .ok t ↔ t = (s.set8 .a s.b).set8 .b s.a := by
  simp only [exchangeAB, Except.ok.injEq, eq_comm (b := t)]

theorem exchangeAHl_ok :
    exchangeAHl s = .ok t ↔ ∃ m s1 u, readByte s (MemOp.hl.ea s) = .ok (m, s1) ∧
      writeByte s1 (MemOp.hl.ea s1) s1.a = .ok u ∧ t = u.set8 .a m := by
  simp only [exchangeAHl, bind_ok, Prod.exists, Except.ok.injEq, eq_comm (b := t)]
  constructor
  · rintro ⟨x, s1, h1, u, h2, e⟩; exact ⟨x, s1, u, h1, h2, e⟩
  · rintro ⟨x, s1, u, h1, h2, e⟩; exact ⟨x, s1, h1, u, h2, e⟩

theorem swapDigits_ok {loc : Loc8} :
    swapDigits loc s = .ok t ↔ ∃ x s1, loc.read s = .ok (x, s1) ∧
      loc.write (loNibble x ++ hiNibble x) s1 = .ok t := by
  simp only [swapDigits, bind_ok, Prod.exists]

theorem load16_ok {dst : Loc16} {src : Src16} :
    load16 dst src s = .ok t ↔ ∃ v s1, src.read s = .ok (v, s1) ∧ dst.write v s1 = .ok t := by
  simp only [load16, bind_ok, Prod.exists]

theorem exchangeBa_ok {rp : Reg16} :
    exchangeBa rp s = .ok t ↔ t = (s.set16 .ba (s.get16 rp)).set16 rp s.ba := by
  simp only [exchangeBa, Except.ok.injEq, eq_comm (b := t)]

/-! 16-bit arithmetic. -/

theorem arith16_ok {op : ArithOp} {dst : Reg16} {src : Src16} :
    arith16 op dst src s = .ok t ↔ ∃ b s1, src.read s = .ok (b, s1) ∧
      t = (s1.set16 dst (op.on16 s1 (s1.get16 dst) b).value).setNVCZ (op.on16 s1 (s1.get16 dst) b) := by
  simp only [arith16, bind_ok, Prod.exists, Except.ok.injEq, eq_comm (b := t)]

theorem compare16_ok {dst : Reg16} {src : Src16} :
    compare16 dst src s = .ok t ↔ ∃ b s1, src.read s = .ok (b, s1) ∧
      t = s1.setNVCZ (subBits (s1.get16 dst) b false) := by
  simp only [compare16, bind_ok, Prod.exists, Except.ok.injEq, eq_comm (b := t)]

theorem inc16_ok {r : Reg16} :
    inc16 r s = .ok t ↔
      t = (s.set16 r (s.get16 r + 1#16)).setFlag .z (s.get16 r + 1#16 == 0#16) := by
  simp only [inc16, Except.ok.injEq, eq_comm (b := t)]

theorem dec16_ok {r : Reg16} :
    dec16 r s = .ok t ↔
      t = (s.set16 r (s.get16 r - 1#16)).setFlag .z (s.get16 r - 1#16 == 0#16) := by
  simp only [dec16, Except.ok.injEq, eq_comm (b := t)]

/-! Auxiliary operations and shifts. -/

theorem shift8_ok {op : ShiftOp} {loc : Loc8} :
    shift8 op loc s = .ok t ↔ ∃ x s1 u, loc.read s = .ok (x, s1) ∧ loc.write ((op.apply s1 x).value) s1 = .ok u ∧
      t = u.setNVCZ (op.apply s1 x) := by
  simp only [shift8, bind_ok, Prod.exists, Except.ok.injEq, eq_comm (b := t)]
  constructor
  · rintro ⟨x, s1, h1, u, h2, e⟩; exact ⟨x, s1, u, h1, h2, e⟩
  · rintro ⟨x, s1, u, h1, h2, e⟩; exact ⟨x, s1, h1, u, h2, e⟩

/-! The stack. -/

theorem popReg8_ok {r : Reg8} :
    popReg8 r s = .ok t ↔ ∃ v u, pop8 s = .ok (v, u) ∧ t = u.set8 r v := by
  simp only [popReg8, bind_ok, Prod.exists, Except.ok.injEq, eq_comm (b := t)]

theorem popReg16_ok {r : Reg16} :
    popReg16 r s = .ok t ↔ ∃ v u, pop16 s = .ok (v, u) ∧ t = u.set16 r v := by
  simp only [popReg16, bind_ok, Prod.exists, Except.ok.injEq, eq_comm (b := t)]

theorem pushIp_ok : pushIp s = .ok t ↔ ∃ u, push8 s.xp s = .ok u ∧ push8 u.yp u = .ok t := by
  simp only [pushIp, pushReg8, bind_ok]; rfl

theorem popIp_ok : popIp s = .ok t ↔ ∃ u, popReg8 .yp s = .ok u ∧ popReg8 .xp u = .ok t := by
  simp only [popIp, bind_ok]

theorem pushAll_ok :
    pushAll s = .ok t ↔ ∃ u1, push16 s.ba s = .ok u1 ∧ ∃ u2, push16 u1.hl u1 = .ok u2 ∧
      ∃ u3, push16 u2.ix u2 = .ok u3 ∧ ∃ u4, push16 u3.iy u3 = .ok u4 ∧ push8 u4.br u4 = .ok t := by
  simp only [pushAll, pushReg16, pushReg8, bind_ok]; rfl

theorem popAll_ok :
    popAll s = .ok t ↔ ∃ u1, popReg8 .br s = .ok u1 ∧ ∃ u2, popReg16 .iy u1 = .ok u2 ∧
      ∃ u3, popReg16 .ix u2 = .ok u3 ∧ ∃ u4, popReg16 .hl u3 = .ok u4 ∧ popReg16 .ba u4 = .ok t := by
  simp only [popAll, bind_ok]

theorem pushAle_ok :
    pushAle s = .ok t ↔ ∃ u1, pushAll s = .ok u1 ∧ ∃ u2, push8 u1.ep u1 = .ok u2 ∧
      pushIp u2 = .ok t := by
  simp only [pushAle, pushReg8, bind_ok]; rfl

theorem popAle_ok :
    popAle s = .ok t ↔ ∃ u1, popIp s = .ok u1 ∧ ∃ u2, popReg8 .ep u1 = .ok u2 ∧
      popAll u2 = .ok t := by
  simp only [popAle, bind_ok]

/-! Branches. -/

theorem jump_ok {cond : Cond} {off : Word} :
    jump cond off s = .ok t ↔
      t = if cond.holds s then branch (relTarget s off) s else noBranch s := by
  simp only [jump, Except.ok.injEq, eq_comm (b := t)]

theorem decrementJump_ok {off : Word} :
    decrementJump off s = .ok t ↔
      t = if s.b - 1#8 = 0#8 then noBranch ((s.set8 .b (s.b - 1#8)).setFlag .z (s.b - 1#8 == 0#8))
        else branch (relTarget ((s.set8 .b (s.b - 1#8)).setFlag .z (s.b - 1#8 == 0#8)) off)
          ((s.set8 .b (s.b - 1#8)).setFlag .z (s.b - 1#8 == 0#8)) := by
  simp only [decrementJump, Except.ok.injEq, eq_comm (b := t)]

theorem jumpVector_ok {kk : Byte} :
    jumpVector kk s = .ok t ↔ ∃ v u, readVector s kk = .ok (v, u) ∧ t = branch v u := by
  simp only [jumpVector, bind_ok, Prod.exists, Except.ok.injEq, eq_comm (b := t)]

theorem call_ok {cond : Cond} {off : Word} :
    call cond off s = .ok t ↔
      if cond.holds s then ∃ u, callPush s = .ok u ∧ t = branch (relTarget s off) u
      else t = noBranch s := by
  unfold call
  split
  · simp only [bind_ok, Except.ok.injEq, eq_comm (b := t)]
  · rw [Except.ok.injEq, eq_comm]

theorem callIndirect_ok {hhll : Word} :
    callIndirect hhll s = .ok t ↔ ∃ u, callPush s = .ok u ∧
      ∃ v w, readWord u u.ep hhll = .ok (v, w) ∧ t = branch v w := by
  simp only [callIndirect, bind_ok, Prod.exists, Except.ok.injEq, eq_comm (b := t)]

theorem returnSkip_ok :
    returnSkip s = .ok t ↔ ∃ u, retPop s = .ok u ∧ t = u.setPc (u.pc + 2#16) := by
  simp only [returnSkip, bind_ok, Except.ok.injEq, eq_comm (b := t)]

theorem softInterrupt_ok {kk : Byte} :
    softInterrupt kk s = .ok t ↔ ∃ u, pushFrame (s.setStatus .exception) = .ok u ∧
      ∃ v w, readVector u kk = .ok (v, w) ∧ t = (branch v w).setStatus .run := by
  simp only [softInterrupt, bind_ok, Prod.exists, Except.ok.injEq, eq_comm (b := t)]

/-! The step. -/

/-- One instruction: cut in its fetch, or fetched, run in the advanced state, finished. -/
theorem runInstruction_next {m : Instr → State → Host.Outcome State Fault Refusal} :
    runInstruction m s = .next t ↔
      (∃ u, fetchInstr s = .error (.reset u) ∧ t = resetAssert u) ∨
      ∃ i w u, fetchInstr s = .ok (i, w) ∧ m i (advance i w) = .next u ∧
        finish i (advance i w) u = .ok t := by
  unfold runInstruction
  cases h : fetchInstr s with
  | error e => simp [conclude_next]
  | ok p =>
    obtain ⟨i, w⟩ := p
    have n : ∀ {u v : State} {e : Stop}, finish i u v = .error e → ∃ f, e = .fault f := by
      intro u v e x
      unfold finish at x
      split at x
      · cases x
      · cases o : overlapped i u v <;> simp only [o] at x <;> cases x
        exact ⟨_, rfl⟩
    simp only [Except.ok.injEq, Prod.mk.injEq, reduceCtorEq, false_and, exists_false, false_or]
    constructor
    · intro k
      cases h2 : m i (advance i w) with
      | next u =>
        rw [h2] at k
        rcases conclude_next.1 k with k | ⟨v, k, _⟩
        · exact ⟨i, w, u, ⟨rfl, rfl⟩, h2, k⟩
        · obtain ⟨f, e⟩ := n k; cases e
      | fault f => rw [h2] at k; cases k
      | refused r => rw [h2] at k; cases k
    · rintro ⟨_, _, u, ⟨rfl, rfl⟩, h2, k⟩
      rw [h2]
      exact conclude_next.2 (.inl k)

/-- The end of an instruction: nothing more after a reset; else no overlapped store, and the hold-off set or left. -/
theorem finish_ok {i : Instr} {u : State} :
    finish i s u = .ok t ↔ u.status = .reset ∧ t = u ∨ u.status ≠ .reset ∧ overlapped i s u = false ∧
      t = if opcodeOf i ∈ s.cfg.holdoffSet then u.setIntHoldoff true else u := by
  unfold finish
  by_cases h : u.status = .reset
  · simp [h, eq_comm (b := t)]
  · cases overlapped i s u <;> simp [h, eq_comm (b := t)]

/-- A fetch reads bytes and does nothing else. -/
theorem fetchFrom_access {n : Nat} {got : List Byte} {a : Word} {i : Instr}
    (h : fetchFrom n got a s = .ok (i, t)) : Access s t [] := by
  induction n generalizing got a s with
  | zero => cases h
  | succ n ih =>
    obtain ⟨⟨b, u⟩, h1, h2⟩ := bind_ok.1 h
    have k := readByte_access h1
    dsimp only at h2
    split at h2
    · cases h2; exact k
    · exact k.trans (ih h2)
    all_goals cases h2

theorem fetchInstr_access {i : Instr} (h : fetchInstr s = .ok (i, t)) : Access s t [] := fetchFrom_access h

theorem fetchFrom_stop (n : Nat) (got : List Byte) (a : Word) (s : State) :
    StopLeaves s (fetchFrom n got a s) := by
  induction n generalizing got a s with
  | zero => exact stopLeaves_fault rfl
  | succ n ih =>
    refine (readByte_stop _ _).bind fun v h => ?_
    dsimp only
    split
    · exact stopLeaves_ok _ _
    · exact (ih _ _ _).from (readByte_access h).keeps
    all_goals exact (stopLeaves_fault rfl).from (readByte_access h).keeps

end Sys2Proof.Machine
end

