-- ==== Sys2Proof/Laws/Form.lean ====
section
/-! SUPPORT. The 608 meanings seen as 48 operations on operands: a proof about every instruction takes these cases instead of 608. -/

namespace Sys2Proof.Machine

/-- An operation with its operands. -/
inductive Form where
  | arith8 (op : ArithOp) (dst : Loc8) (src : Src8)
  | compare8 (dst : Loc8) (src : Src8)
  | inc8 (loc : Loc8)
  | dec8 (loc : Loc8)
  | negate8 (loc : Loc8)
  | multiply
  | divide
  | logic8 (op : LogicOp) (dst : Loc8) (src : Src8)
  | logicSc (op : LogicOp) (nn : Byte)
  | bitTest (dst : Loc8) (src : Src8)
  | complement8 (loc : Loc8)
  | load8 (dst : Loc8) (src : Src8)
  | exchangeAB
  | exchangeAHl
  | swapDigits (loc : Loc8)
  | load16 (dst : Loc16) (src : Src16)
  | exchangeBa (rp : Reg16)
  | arith16 (op : ArithOp) (dst : Reg16) (src : Src16)
  | compare16 (dst : Reg16) (src : Src16)
  | inc16 (r : Reg16)
  | dec16 (r : Reg16)
  | packDigits
  | unpackDigits
  | signExtendA
  | shift8 (op : ShiftOp) (loc : Loc8)
  | pushReg8 (r : Reg8)
  | popReg8 (r : Reg8)
  | pushReg16 (r : Reg16)
  | popReg16 (r : Reg16)
  | pushIp
  | popIp
  | pushAll
  | popAll
  | pushAle
  | popAle
  | jump (cond : Cond) (offset : Word)
  | decrementJump (offset : Word)
  | jumpHl
  | jumpVector (kk : Byte)
  | call (cond : Cond) (offset : Word)
  | callIndirect (hhll : Word)
  | returnPlain
  | returnException
  | returnSkip
  | softInterrupt (kk : Byte)
  | noOperation
  | enterHalt
  | enterSleep
deriving DecidableEq, Repr

/-- What a form does. -/
def Form.run (s : State) : Form → Result State
  | .arith8 op dst src => Sys2Proof.Machine.arith8 op dst src s
  | .compare8 dst src => Sys2Proof.Machine.compare8 dst src s
  | .inc8 loc => Sys2Proof.Machine.inc8 loc s
  | .dec8 loc => Sys2Proof.Machine.dec8 loc s
  | .negate8 loc => Sys2Proof.Machine.negate8 loc s
  | .multiply => Sys2Proof.Machine.multiply s
  | .divide => Sys2Proof.Machine.divide s
  | .logic8 op dst src => Sys2Proof.Machine.logic8 op dst src s
  | .logicSc op nn => Sys2Proof.Machine.logicSc op nn s
  | .bitTest dst src => Sys2Proof.Machine.bitTest dst src s
  | .complement8 loc => Sys2Proof.Machine.complement8 loc s
  | .load8 dst src => Sys2Proof.Machine.load8 dst src s
  | .exchangeAB => Sys2Proof.Machine.exchangeAB s
  | .exchangeAHl => Sys2Proof.Machine.exchangeAHl s
  | .swapDigits loc => Sys2Proof.Machine.swapDigits loc s
  | .load16 dst src => Sys2Proof.Machine.load16 dst src s
  | .exchangeBa rp => Sys2Proof.Machine.exchangeBa rp s
  | .arith16 op dst src => Sys2Proof.Machine.arith16 op dst src s
  | .compare16 dst src => Sys2Proof.Machine.compare16 dst src s
  | .inc16 r => Sys2Proof.Machine.inc16 r s
  | .dec16 r => Sys2Proof.Machine.dec16 r s
  | .packDigits => Sys2Proof.Machine.packDigits s
  | .unpackDigits => Sys2Proof.Machine.unpackDigits s
  | .signExtendA => Sys2Proof.Machine.signExtendA s
  | .shift8 op loc => Sys2Proof.Machine.shift8 op loc s
  | .pushReg8 r => Sys2Proof.Machine.pushReg8 r s
  | .popReg8 r => Sys2Proof.Machine.popReg8 r s
  | .pushReg16 r => Sys2Proof.Machine.pushReg16 r s
  | .popReg16 r => Sys2Proof.Machine.popReg16 r s
  | .pushIp => Sys2Proof.Machine.pushIp s
  | .popIp => Sys2Proof.Machine.popIp s
  | .pushAll => Sys2Proof.Machine.pushAll s
  | .popAll => Sys2Proof.Machine.popAll s
  | .pushAle => Sys2Proof.Machine.pushAle s
  | .popAle => Sys2Proof.Machine.popAle s
  | .jump cond offset => Sys2Proof.Machine.jump cond offset s
  | .decrementJump offset => Sys2Proof.Machine.decrementJump offset s
  | .jumpHl => Sys2Proof.Machine.jumpHl s
  | .jumpVector kk => Sys2Proof.Machine.jumpVector kk s
  | .call cond offset => Sys2Proof.Machine.call cond offset s
  | .callIndirect hhll => Sys2Proof.Machine.callIndirect hhll s
  | .returnPlain => Sys2Proof.Machine.returnPlain s
  | .returnException => Sys2Proof.Machine.returnException s
  | .returnSkip => Sys2Proof.Machine.returnSkip s
  | .softInterrupt kk => Sys2Proof.Machine.softInterrupt kk s
  | .noOperation => Sys2Proof.Machine.noOperation s
  | .enterHalt => Sys2Proof.Machine.enterHalt s
  | .enterSleep => Sys2Proof.Machine.enterSleep s

/-- The form of each instruction. -/
def formOf : Instr → Form
  | .addAA => .arith8 .add (.reg .a) (.reg .a)
  | .addAB => .arith8 .add (.reg .a) (.reg .b)
  | .addAImm nn => .arith8 .add (.reg .a) (.imm nn)
  | .addAMHl => .arith8 .add (.reg .a) (.mem .hl)
  | .addAMBr ll => .arith8 .add (.reg .a) (.mem (.br ll))
  | .addAMAbs hhll => .arith8 .add (.reg .a) (.mem (.abs hhll))
  | .addAMIx => .arith8 .add (.reg .a) (.mem .ix)
  | .addAMIy => .arith8 .add (.reg .a) (.mem .iy)
  | .adcAA => .arith8 .adc (.reg .a) (.reg .a)
  | .adcAB => .arith8 .adc (.reg .a) (.reg .b)
  | .adcAImm nn => .arith8 .adc (.reg .a) (.imm nn)
  | .adcAMHl => .arith8 .adc (.reg .a) (.mem .hl)
  | .adcAMBr ll => .arith8 .adc (.reg .a) (.mem (.br ll))
  | .adcAMAbs hhll => .arith8 .adc (.reg .a) (.mem (.abs hhll))
  | .adcAMIx => .arith8 .adc (.reg .a) (.mem .ix)
  | .adcAMIy => .arith8 .adc (.reg .a) (.mem .iy)
  | .subAA => .arith8 .sub (.reg .a) (.reg .a)
  | .subAB => .arith8 .sub (.reg .a) (.reg .b)
  | .subAImm nn => .arith8 .sub (.reg .a) (.imm nn)
  | .subAMHl => .arith8 .sub (.reg .a) (.mem .hl)
  | .subAMBr ll => .arith8 .sub (.reg .a) (.mem (.br ll))
  | .subAMAbs hhll => .arith8 .sub (.reg .a) (.mem (.abs hhll))
  | .subAMIx => .arith8 .sub (.reg .a) (.mem .ix)
  | .subAMIy => .arith8 .sub (.reg .a) (.mem .iy)
  | .sbcAA => .arith8 .sbc (.reg .a) (.reg .a)
  | .sbcAB => .arith8 .sbc (.reg .a) (.reg .b)
  | .sbcAImm nn => .arith8 .sbc (.reg .a) (.imm nn)
  | .sbcAMHl => .arith8 .sbc (.reg .a) (.mem .hl)
  | .sbcAMBr ll => .arith8 .sbc (.reg .a) (.mem (.br ll))
  | .sbcAMAbs hhll => .arith8 .sbc (.reg .a) (.mem (.abs hhll))
  | .sbcAMIx => .arith8 .sbc (.reg .a) (.mem .ix)
  | .sbcAMIy => .arith8 .sbc (.reg .a) (.mem .iy)
  | .andAA => .logic8 .and (.reg .a) (.reg .a)
  | .andAB => .logic8 .and (.reg .a) (.reg .b)
  | .andAImm nn => .logic8 .and (.reg .a) (.imm nn)
  | .andAMHl => .logic8 .and (.reg .a) (.mem .hl)
  | .andAMBr ll => .logic8 .and (.reg .a) (.mem (.br ll))
  | .andAMAbs hhll => .logic8 .and (.reg .a) (.mem (.abs hhll))
  | .andAMIx => .logic8 .and (.reg .a) (.mem .ix)
  | .andAMIy => .logic8 .and (.reg .a) (.mem .iy)
  | .orAA => .logic8 .or (.reg .a) (.reg .a)
  | .orAB => .logic8 .or (.reg .a) (.reg .b)
  | .orAImm nn => .logic8 .or (.reg .a) (.imm nn)
  | .orAMHl => .logic8 .or (.reg .a) (.mem .hl)
  | .orAMBr ll => .logic8 .or (.reg .a) (.mem (.br ll))
  | .orAMAbs hhll => .logic8 .or (.reg .a) (.mem (.abs hhll))
  | .orAMIx => .logic8 .or (.reg .a) (.mem .ix)
  | .orAMIy => .logic8 .or (.reg .a) (.mem .iy)
  | .cpAA => .compare8 (.reg .a) (.reg .a)
  | .cpAB => .compare8 (.reg .a) (.reg .b)
  | .cpAImm nn => .compare8 (.reg .a) (.imm nn)
  | .cpAMHl => .compare8 (.reg .a) (.mem .hl)
  | .cpAMBr ll => .compare8 (.reg .a) (.mem (.br ll))
  | .cpAMAbs hhll => .compare8 (.reg .a) (.mem (.abs hhll))
  | .cpAMIx => .compare8 (.reg .a) (.mem .ix)
  | .cpAMIy => .compare8 (.reg .a) (.mem .iy)
  | .xorAA => .logic8 .xor (.reg .a) (.reg .a)
  | .xorAB => .logic8 .xor (.reg .a) (.reg .b)
  | .xorAImm nn => .logic8 .xor (.reg .a) (.imm nn)
  | .xorAMHl => .logic8 .xor (.reg .a) (.mem .hl)
  | .xorAMBr ll => .logic8 .xor (.reg .a) (.mem (.br ll))
  | .xorAMAbs hhll => .logic8 .xor (.reg .a) (.mem (.abs hhll))
  | .xorAMIx => .logic8 .xor (.reg .a) (.mem .ix)
  | .xorAMIy => .logic8 .xor (.reg .a) (.mem .iy)
  | .ldAA => .load8 (.reg .a) (.reg .a)
  | .ldAB => .load8 (.reg .a) (.reg .b)
  | .ldAL => .load8 (.reg .a) (.reg .l)
  | .ldAH => .load8 (.reg .a) (.reg .h)
  | .ldAMBr ll => .load8 (.reg .a) (.mem (.br ll))
  | .ldAMHl => .load8 (.reg .a) (.mem .hl)
  | .ldAMIx => .load8 (.reg .a) (.mem .ix)
  | .ldAMIy => .load8 (.reg .a) (.mem .iy)
  | .ldBA => .load8 (.reg .b) (.reg .a)
  | .ldBB => .load8 (.reg .b) (.reg .b)
  | .ldBL => .load8 (.reg .b) (.reg .l)
  | .ldBH => .load8 (.reg .b) (.reg .h)
  | .ldBMBr ll => .load8 (.reg .b) (.mem (.br ll))
  | .ldBMHl => .load8 (.reg .b) (.mem .hl)
  | .ldBMIx => .load8 (.reg .b) (.mem .ix)
  | .ldBMIy => .load8 (.reg .b) (.mem .iy)
  | .ldLA => .load8 (.reg .l) (.reg .a)
  | .ldLB => .load8 (.reg .l) (.reg .b)
  | .ldLL => .load8 (.reg .l) (.reg .l)
  | .ldLH => .load8 (.reg .l) (.reg .h)
  | .ldLMBr ll => .load8 (.reg .l) (.mem (.br ll))
  | .ldLMHl => .load8 (.reg .l) (.mem .hl)
  | .ldLMIx => .load8 (.reg .l) (.mem .ix)
  | .ldLMIy => .load8 (.reg .l) (.mem .iy)
  | .ldHA => .load8 (.reg .h) (.reg .a)
  | .ldHB => .load8 (.reg .h) (.reg .b)
  | .ldHL => .load8 (.reg .h) (.reg .l)
  | .ldHH => .load8 (.reg .h) (.reg .h)
  | .ldHMBr ll => .load8 (.reg .h) (.mem (.br ll))
  | .ldHMHl => .load8 (.reg .h) (.mem .hl)
  | .ldHMIx => .load8 (.reg .h) (.mem .ix)
  | .ldHMIy => .load8 (.reg .h) (.mem .iy)
  | .ldMIxA => .load8 (.mem .ix) (.reg .a)
  | .ldMIxB => .load8 (.mem .ix) (.reg .b)
  | .ldMIxL => .load8 (.mem .ix) (.reg .l)
  | .ldMIxH => .load8 (.mem .ix) (.reg .h)
  | .ldMIxMBr ll => .load8 (.mem .ix) (.mem (.br ll))
  | .ldMIxMHl => .load8 (.mem .ix) (.mem .hl)
  | .ldMIxMIx => .load8 (.mem .ix) (.mem .ix)
  | .ldMIxMIy => .load8 (.mem .ix) (.mem .iy)
  | .ldMHlA => .load8 (.mem .hl) (.reg .a)
  | .ldMHlB => .load8 (.mem .hl) (.reg .b)
  | .ldMHlL => .load8 (.mem .hl) (.reg .l)
  | .ldMHlH => .load8 (.mem .hl) (.reg .h)
  | .ldMHlMBr ll => .load8 (.mem .hl) (.mem (.br ll))
  | .ldMHlMHl => .load8 (.mem .hl) (.mem .hl)
  | .ldMHlMIx => .load8 (.mem .hl) (.mem .ix)
  | .ldMHlMIy => .load8 (.mem .hl) (.mem .iy)
  | .ldMIyA => .load8 (.mem .iy) (.reg .a)
  | .ldMIyB => .load8 (.mem .iy) (.reg .b)
  | .ldMIyL => .load8 (.mem .iy) (.reg .l)
  | .ldMIyH => .load8 (.mem .iy) (.reg .h)
  | .ldMIyMBr ll => .load8 (.mem .iy) (.mem (.br ll))
  | .ldMIyMHl => .load8 (.mem .iy) (.mem .hl)
  | .ldMIyMIx => .load8 (.mem .iy) (.mem .ix)
  | .ldMIyMIy => .load8 (.mem .iy) (.mem .iy)
  | .ldMBrA ll => .load8 (.mem (.br ll)) (.reg .a)
  | .ldMBrB ll => .load8 (.mem (.br ll)) (.reg .b)
  | .ldMBrL ll => .load8 (.mem (.br ll)) (.reg .l)
  | .ldMBrH ll => .load8 (.mem (.br ll)) (.reg .h)
  | .ldMBrMHl ll => .load8 (.mem (.br ll)) (.mem .hl)
  | .ldMBrMIx ll => .load8 (.mem (.br ll)) (.mem .ix)
  | .ldMBrMIy ll => .load8 (.mem (.br ll)) (.mem .iy)
  | .incA => .inc8 (.reg .a)
  | .incB => .inc8 (.reg .b)
  | .incL => .inc8 (.reg .l)
  | .incH => .inc8 (.reg .h)
  | .incBr => .inc8 (.reg .br)
  | .incMBr ll => .inc8 (.mem (.br ll))
  | .incMHl => .inc8 (.mem .hl)
  | .incSp => .inc16 .sp
  | .decA => .dec8 (.reg .a)
  | .decB => .dec8 (.reg .b)
  | .decL => .dec8 (.reg .l)
  | .decH => .dec8 (.reg .h)
  | .decBr => .dec8 (.reg .br)
  | .decMBr ll => .dec8 (.mem (.br ll))
  | .decMHl => .dec8 (.mem .hl)
  | .decSp => .dec16 .sp
  | .incBa => .inc16 .ba
  | .incHl => .inc16 .hl
  | .incIx => .inc16 .ix
  | .incIy => .inc16 .iy
  | .bitAB => .bitTest (.reg .a) (.reg .b)
  | .bitMHlImm nn => .bitTest (.mem .hl) (.imm nn)
  | .bitAImm nn => .bitTest (.reg .a) (.imm nn)
  | .bitBImm nn => .bitTest (.reg .b) (.imm nn)
  | .decBa => .dec16 .ba
  | .decHl => .dec16 .hl
  | .decIx => .dec16 .ix
  | .decIy => .dec16 .iy
  | .andScImm nn => .logicSc .and nn
  | .orScImm nn => .logicSc .or nn
  | .xorScImm nn => .logicSc .xor nn
  | .ldScImm nn => .load8 (.reg .sc) (.imm nn)
  | .pushBa => .pushReg16 .ba
  | .pushHl => .pushReg16 .hl
  | .pushIx => .pushReg16 .ix
  | .pushIy => .pushReg16 .iy
  | .pushBr => .pushReg8 .br
  | .pushEp => .pushReg8 .ep
  | .pushIp => .pushIp
  | .pushSc => .pushReg8 .sc
  | .popBa => .popReg16 .ba
  | .popHl => .popReg16 .hl
  | .popIx => .popReg16 .ix
  | .popIy => .popReg16 .iy
  | .popBr => .popReg8 .br
  | .popEp => .popReg8 .ep
  | .popIp => .popIp
  | .popSc => .popReg8 .sc
  | .ldAImm nn => .load8 (.reg .a) (.imm nn)
  | .ldBImm nn => .load8 (.reg .b) (.imm nn)
  | .ldLImm nn => .load8 (.reg .l) (.imm nn)
  | .ldHImm nn => .load8 (.reg .h) (.imm nn)
  | .ldBrImm hh => .load8 (.reg .br) (.imm hh)
  | .ldMHlImm nn => .load8 (.mem .hl) (.imm nn)
  | .ldMIxImm nn => .load8 (.mem .ix) (.imm nn)
  | .ldMIyImm nn => .load8 (.mem .iy) (.imm nn)
  | .ldBaMAbs hhll => .load16 (.reg .ba) (.mem (.abs hhll))
  | .ldHlMAbs hhll => .load16 (.reg .hl) (.mem (.abs hhll))
  | .ldIxMAbs hhll => .load16 (.reg .ix) (.mem (.abs hhll))
  | .ldIyMAbs hhll => .load16 (.reg .iy) (.mem (.abs hhll))
  | .ldMAbsBa hhll => .load16 (.mem (.abs hhll)) (.reg .ba)
  | .ldMAbsHl hhll => .load16 (.mem (.abs hhll)) (.reg .hl)
  | .ldMAbsIx hhll => .load16 (.mem (.abs hhll)) (.reg .ix)
  | .ldMAbsIy hhll => .load16 (.mem (.abs hhll)) (.reg .iy)
  | .addBaImm mmnn => .arith16 .add .ba (.imm mmnn)
  | .addHlImm mmnn => .arith16 .add .hl (.imm mmnn)
  | .addIxImm mmnn => .arith16 .add .ix (.imm mmnn)
  | .addIyImm mmnn => .arith16 .add .iy (.imm mmnn)
  | .ldBaImm mmnn => .load16 (.reg .ba) (.imm mmnn)
  | .ldHlImm mmnn => .load16 (.reg .hl) (.imm mmnn)
  | .ldIxImm mmnn => .load16 (.reg .ix) (.imm mmnn)
  | .ldIyImm mmnn => .load16 (.reg .iy) (.imm mmnn)
  | .exBaHl => .exchangeBa .hl
  | .exBaIx => .exchangeBa .ix
  | .exBaIy => .exchangeBa .iy
  | .exBaSp => .exchangeBa .sp
  | .exAB => .exchangeAB
  | .exAMHl => .exchangeAHl
  | .subBaImm mmnn => .arith16 .sub .ba (.imm mmnn)
  | .subHlImm mmnn => .arith16 .sub .hl (.imm mmnn)
  | .subIxImm mmnn => .arith16 .sub .ix (.imm mmnn)
  | .subIyImm mmnn => .arith16 .sub .iy (.imm mmnn)
  | .cpBaImm mmnn => .compare16 .ba (.imm mmnn)
  | .cpHlImm mmnn => .compare16 .hl (.imm mmnn)
  | .cpIxImm mmnn => .compare16 .ix (.imm mmnn)
  | .cpIyImm mmnn => .compare16 .iy (.imm mmnn)
  | .andMBrImm ll nn => .logic8 .and (.mem (.br ll)) (.imm nn)
  | .orMBrImm ll nn => .logic8 .or (.mem (.br ll)) (.imm nn)
  | .xorMBrImm ll nn => .logic8 .xor (.mem (.br ll)) (.imm nn)
  | .cpMBrImm ll nn => .compare8 (.mem (.br ll)) (.imm nn)
  | .bitMBrImm ll nn => .bitTest (.mem (.br ll)) (.imm nn)
  | .ldMBrImm ll nn => .load8 (.mem (.br ll)) (.imm nn)
  | .pack => .packDigits
  | .upck => .unpackDigits
  | .carsC rr => .call .c (sext16 rr)
  | .carsNc rr => .call .nc (sext16 rr)
  | .carsZ rr => .call .z (sext16 rr)
  | .carsNz rr => .call .nz (sext16 rr)
  | .jrsC rr => .jump .c (sext16 rr)
  | .jrsNc rr => .jump .nc (sext16 rr)
  | .jrsZ rr => .jump .z (sext16 rr)
  | .jrsNz rr => .jump .nz (sext16 rr)
  | .carlC qqrr => .call .c qqrr
  | .carlNc qqrr => .call .nc qqrr
  | .carlZ qqrr => .call .z qqrr
  | .carlNz qqrr => .call .nz qqrr
  | .jrlC qqrr => .jump .c qqrr
  | .jrlNc qqrr => .jump .nc qqrr
  | .jrlZ qqrr => .jump .z qqrr
  | .jrlNz qqrr => .jump .nz qqrr
  | .cars rr => .call .always (sext16 rr)
  | .jrs rr => .jump .always (sext16 rr)
  | .carl qqrr => .call .always qqrr
  | .jrl qqrr => .jump .always qqrr
  | .jpHl => .jumpHl
  | .djrNz rr => .decrementJump (sext16 rr)
  | .swapA => .swapDigits (.reg .a)
  | .swapMHl => .swapDigits (.mem .hl)
  | .ret => .returnPlain
  | .rete => .returnException
  | .rets => .returnSkip
  | .callMAbs hhll => .callIndirect hhll
  | .intVec kk => .softInterrupt kk
  | .jpVec kk => .jumpVector kk
  | .nop => .noOperation
  | .addAMIxDd dd => .arith8 .add (.reg .a) (.mem (.ixd dd))
  | .addAMIyDd dd => .arith8 .add (.reg .a) (.mem (.iyd dd))
  | .addAMIxL => .arith8 .add (.reg .a) (.mem .ixl)
  | .addAMIyL => .arith8 .add (.reg .a) (.mem .iyl)
  | .addMHlA => .arith8 .add (.mem .hl) (.reg .a)
  | .addMHlImm nn => .arith8 .add (.mem .hl) (.imm nn)
  | .addMHlMIx => .arith8 .add (.mem .hl) (.mem .ix)
  | .addMHlMIy => .arith8 .add (.mem .hl) (.mem .iy)
  | .adcAMIxDd dd => .arith8 .adc (.reg .a) (.mem (.ixd dd))
  | .adcAMIyDd dd => .arith8 .adc (.reg .a) (.mem (.iyd dd))
  | .adcAMIxL => .arith8 .adc (.reg .a) (.mem .ixl)
  | .adcAMIyL => .arith8 .adc (.reg .a) (.mem .iyl)
  | .adcMHlA => .arith8 .adc (.mem .hl) (.reg .a)
  | .adcMHlImm nn => .arith8 .adc (.mem .hl) (.imm nn)
  | .adcMHlMIx => .arith8 .adc (.mem .hl) (.mem .ix)
  | .adcMHlMIy => .arith8 .adc (.mem .hl) (.mem .iy)
  | .subAMIxDd dd => .arith8 .sub (.reg .a) (.mem (.ixd dd))
  | .subAMIyDd dd => .arith8 .sub (.reg .a) (.mem (.iyd dd))
  | .subAMIxL => .arith8 .sub (.reg .a) (.mem .ixl)
  | .subAMIyL => .arith8 .sub (.reg .a) (.mem .iyl)
  | .subMHlA => .arith8 .sub (.mem .hl) (.reg .a)
  | .subMHlImm nn => .arith8 .sub (.mem .hl) (.imm nn)
  | .subMHlMIx => .arith8 .sub (.mem .hl) (.mem .ix)
  | .subMHlMIy => .arith8 .sub (.mem .hl) (.mem .iy)
  | .sbcAMIxDd dd => .arith8 .sbc (.reg .a) (.mem (.ixd dd))
  | .sbcAMIyDd dd => .arith8 .sbc (.reg .a) (.mem (.iyd dd))
  | .sbcAMIxL => .arith8 .sbc (.reg .a) (.mem .ixl)
  | .sbcAMIyL => .arith8 .sbc (.reg .a) (.mem .iyl)
  | .sbcMHlA => .arith8 .sbc (.mem .hl) (.reg .a)
  | .sbcMHlImm nn => .arith8 .sbc (.mem .hl) (.imm nn)
  | .sbcMHlMIx => .arith8 .sbc (.mem .hl) (.mem .ix)
  | .sbcMHlMIy => .arith8 .sbc (.mem .hl) (.mem .iy)
  | .andAMIxDd dd => .logic8 .and (.reg .a) (.mem (.ixd dd))
  | .andAMIyDd dd => .logic8 .and (.reg .a) (.mem (.iyd dd))
  | .andAMIxL => .logic8 .and (.reg .a) (.mem .ixl)
  | .andAMIyL => .logic8 .and (.reg .a) (.mem .iyl)
  | .andMHlA => .logic8 .and (.mem .hl) (.reg .a)
  | .andMHlImm nn => .logic8 .and (.mem .hl) (.imm nn)
  | .andMHlMIx => .logic8 .and (.mem .hl) (.mem .ix)
  | .andMHlMIy => .logic8 .and (.mem .hl) (.mem .iy)
  | .orAMIxDd dd => .logic8 .or (.reg .a) (.mem (.ixd dd))
  | .orAMIyDd dd => .logic8 .or (.reg .a) (.mem (.iyd dd))
  | .orAMIxL => .logic8 .or (.reg .a) (.mem .ixl)
  | .orAMIyL => .logic8 .or (.reg .a) (.mem .iyl)
  | .orMHlA => .logic8 .or (.mem .hl) (.reg .a)
  | .orMHlImm nn => .logic8 .or (.mem .hl) (.imm nn)
  | .orMHlMIx => .logic8 .or (.mem .hl) (.mem .ix)
  | .orMHlMIy => .logic8 .or (.mem .hl) (.mem .iy)
  | .cpAMIxDd dd => .compare8 (.reg .a) (.mem (.ixd dd))
  | .cpAMIyDd dd => .compare8 (.reg .a) (.mem (.iyd dd))
  | .cpAMIxL => .compare8 (.reg .a) (.mem .ixl)
  | .cpAMIyL => .compare8 (.reg .a) (.mem .iyl)
  | .cpMHlA => .compare8 (.mem .hl) (.reg .a)
  | .cpMHlImm nn => .compare8 (.mem .hl) (.imm nn)
  | .cpMHlMIx => .compare8 (.mem .hl) (.mem .ix)
  | .cpMHlMIy => .compare8 (.mem .hl) (.mem .iy)
  | .xorAMIxDd dd => .logic8 .xor (.reg .a) (.mem (.ixd dd))
  | .xorAMIyDd dd => .logic8 .xor (.reg .a) (.mem (.iyd dd))
  | .xorAMIxL => .logic8 .xor (.reg .a) (.mem .ixl)
  | .xorAMIyL => .logic8 .xor (.reg .a) (.mem .iyl)
  | .xorMHlA => .logic8 .xor (.mem .hl) (.reg .a)
  | .xorMHlImm nn => .logic8 .xor (.mem .hl) (.imm nn)
  | .xorMHlMIx => .logic8 .xor (.mem .hl) (.mem .ix)
  | .xorMHlMIy => .logic8 .xor (.mem .hl) (.mem .iy)
  | .ldAMIxDd dd => .load8 (.reg .a) (.mem (.ixd dd))
  | .ldAMIyDd dd => .load8 (.reg .a) (.mem (.iyd dd))
  | .ldAMIxL => .load8 (.reg .a) (.mem .ixl)
  | .ldAMIyL => .load8 (.reg .a) (.mem .iyl)
  | .ldMIxDdA dd => .load8 (.mem (.ixd dd)) (.reg .a)
  | .ldMIyDdA dd => .load8 (.mem (.iyd dd)) (.reg .a)
  | .ldMIxLA => .load8 (.mem .ixl) (.reg .a)
  | .ldMIyLA => .load8 (.mem .iyl) (.reg .a)
  | .ldBMIxDd dd => .load8 (.reg .b) (.mem (.ixd dd))
  | .ldBMIyDd dd => .load8 (.reg .b) (.mem (.iyd dd))
  | .ldBMIxL => .load8 (.reg .b) (.mem .ixl)
  | .ldBMIyL => .load8 (.reg .b) (.mem .iyl)
  | .ldMIxDdB dd => .load8 (.mem (.ixd dd)) (.reg .b)
  | .ldMIyDdB dd => .load8 (.mem (.iyd dd)) (.reg .b)
  | .ldMIxLB => .load8 (.mem .ixl) (.reg .b)
  | .ldMIyLB => .load8 (.mem .iyl) (.reg .b)
  | .ldLMIxDd dd => .load8 (.reg .l) (.mem (.ixd dd))
  | .ldLMIyDd dd => .load8 (.reg .l) (.mem (.iyd dd))
  | .ldLMIxL => .load8 (.reg .l) (.mem .ixl)
  | .ldLMIyL => .load8 (.reg .l) (.mem .iyl)
  | .ldMIxDdL dd => .load8 (.mem (.ixd dd)) (.reg .l)
  | .ldMIyDdL dd => .load8 (.mem (.iyd dd)) (.reg .l)
  | .ldMIxLL => .load8 (.mem .ixl) (.reg .l)
  | .ldMIyLL => .load8 (.mem .iyl) (.reg .l)
  | .ldHMIxDd dd => .load8 (.reg .h) (.mem (.ixd dd))
  | .ldHMIyDd dd => .load8 (.reg .h) (.mem (.iyd dd))
  | .ldHMIxL => .load8 (.reg .h) (.mem .ixl)
  | .ldHMIyL => .load8 (.reg .h) (.mem .iyl)
  | .ldMIxDdH dd => .load8 (.mem (.ixd dd)) (.reg .h)
  | .ldMIyDdH dd => .load8 (.mem (.iyd dd)) (.reg .h)
  | .ldMIxLH => .load8 (.mem .ixl) (.reg .h)
  | .ldMIyLH => .load8 (.mem .iyl) (.reg .h)
  | .ldMHlMIxDd dd => .load8 (.mem .hl) (.mem (.ixd dd))
  | .ldMHlMIyDd dd => .load8 (.mem .hl) (.mem (.iyd dd))
  | .ldMHlMIxL => .load8 (.mem .hl) (.mem .ixl)
  | .ldMHlMIyL => .load8 (.mem .hl) (.mem .iyl)
  | .ldMIxMIxDd dd => .load8 (.mem .ix) (.mem (.ixd dd))
  | .ldMIxMIyDd dd => .load8 (.mem .ix) (.mem (.iyd dd))
  | .ldMIxMIxL => .load8 (.mem .ix) (.mem .ixl)
  | .ldMIxMIyL => .load8 (.mem .ix) (.mem .iyl)
  | .ldMIyMIxDd dd => .load8 (.mem .iy) (.mem (.ixd dd))
  | .ldMIyMIyDd dd => .load8 (.mem .iy) (.mem (.iyd dd))
  | .ldMIyMIxL => .load8 (.mem .iy) (.mem .ixl)
  | .ldMIyMIyL => .load8 (.mem .iy) (.mem .iyl)
  | .slaA => .shift8 .sla (.reg .a)
  | .slaB => .shift8 .sla (.reg .b)
  | .slaMBr ll => .shift8 .sla (.mem (.br ll))
  | .slaMHl => .shift8 .sla (.mem .hl)
  | .sllA => .shift8 .sll (.reg .a)
  | .sllB => .shift8 .sll (.reg .b)
  | .sllMBr ll => .shift8 .sll (.mem (.br ll))
  | .sllMHl => .shift8 .sll (.mem .hl)
  | .sraA => .shift8 .sra (.reg .a)
  | .sraB => .shift8 .sra (.reg .b)
  | .sraMBr ll => .shift8 .sra (.mem (.br ll))
  | .sraMHl => .shift8 .sra (.mem .hl)
  | .srlA => .shift8 .srl (.reg .a)
  | .srlB => .shift8 .srl (.reg .b)
  | .srlMBr ll => .shift8 .srl (.mem (.br ll))
  | .srlMHl => .shift8 .srl (.mem .hl)
  | .rlA => .shift8 .rl (.reg .a)
  | .rlB => .shift8 .rl (.reg .b)
  | .rlMBr ll => .shift8 .rl (.mem (.br ll))
  | .rlMHl => .shift8 .rl (.mem .hl)
  | .rlcA => .shift8 .rlc (.reg .a)
  | .rlcB => .shift8 .rlc (.reg .b)
  | .rlcMBr ll => .shift8 .rlc (.mem (.br ll))
  | .rlcMHl => .shift8 .rlc (.mem .hl)
  | .rrA => .shift8 .rr (.reg .a)
  | .rrB => .shift8 .rr (.reg .b)
  | .rrMBr ll => .shift8 .rr (.mem (.br ll))
  | .rrMHl => .shift8 .rr (.mem .hl)
  | .rrcA => .shift8 .rrc (.reg .a)
  | .rrcB => .shift8 .rrc (.reg .b)
  | .rrcMBr ll => .shift8 .rrc (.mem (.br ll))
  | .rrcMHl => .shift8 .rrc (.mem .hl)
  | .cplA => .complement8 (.reg .a)
  | .cplB => .complement8 (.reg .b)
  | .cplMBr ll => .complement8 (.mem (.br ll))
  | .cplMHl => .complement8 (.mem .hl)
  | .negA => .negate8 (.reg .a)
  | .negB => .negate8 (.reg .b)
  | .negMBr ll => .negate8 (.mem (.br ll))
  | .negMHl => .negate8 (.mem .hl)
  | .sep => .signExtendA
  | .halt => .enterHalt
  | .slp => .enterSleep
  | .andBImm nn => .logic8 .and (.reg .b) (.imm nn)
  | .andLImm nn => .logic8 .and (.reg .l) (.imm nn)
  | .andHImm nn => .logic8 .and (.reg .h) (.imm nn)
  | .orBImm nn => .logic8 .or (.reg .b) (.imm nn)
  | .orLImm nn => .logic8 .or (.reg .l) (.imm nn)
  | .orHImm nn => .logic8 .or (.reg .h) (.imm nn)
  | .xorBImm nn => .logic8 .xor (.reg .b) (.imm nn)
  | .xorLImm nn => .logic8 .xor (.reg .l) (.imm nn)
  | .xorHImm nn => .logic8 .xor (.reg .h) (.imm nn)
  | .cpBImm nn => .compare8 (.reg .b) (.imm nn)
  | .cpLImm nn => .compare8 (.reg .l) (.imm nn)
  | .cpHImm nn => .compare8 (.reg .h) (.imm nn)
  | .cpBrImm hh => .compare8 (.reg .br) (.imm hh)
  | .ldABr => .load8 (.reg .a) (.reg .br)
  | .ldASc => .load8 (.reg .a) (.reg .sc)
  | .ldBrA => .load8 (.reg .br) (.reg .a)
  | .ldScA => .load8 (.reg .sc) (.reg .a)
  | .ldNbImm bb => .load8 (.reg .nb) (.imm bb)
  | .ldEpImm pp => .load8 (.reg .ep) (.imm pp)
  | .ldXpImm pp => .load8 (.reg .xp) (.imm pp)
  | .ldYpImm pp => .load8 (.reg .yp) (.imm pp)
  | .ldANb => .load8 (.reg .a) (.reg .nb)
  | .ldAEp => .load8 (.reg .a) (.reg .ep)
  | .ldAXp => .load8 (.reg .a) (.reg .xp)
  | .ldAYp => .load8 (.reg .a) (.reg .yp)
  | .ldNbA => .load8 (.reg .nb) (.reg .a)
  | .ldEpA => .load8 (.reg .ep) (.reg .a)
  | .ldXpA => .load8 (.reg .xp) (.reg .a)
  | .ldYpA => .load8 (.reg .yp) (.reg .a)
  | .ldAMAbs hhll => .load8 (.reg .a) (.mem (.abs hhll))
  | .ldBMAbs hhll => .load8 (.reg .b) (.mem (.abs hhll))
  | .ldLMAbs hhll => .load8 (.reg .l) (.mem (.abs hhll))
  | .ldHMAbs hhll => .load8 (.reg .h) (.mem (.abs hhll))
  | .ldMAbsA hhll => .load8 (.mem (.abs hhll)) (.reg .a)
  | .ldMAbsB hhll => .load8 (.mem (.abs hhll)) (.reg .b)
  | .ldMAbsL hhll => .load8 (.mem (.abs hhll)) (.reg .l)
  | .ldMAbsH hhll => .load8 (.mem (.abs hhll)) (.reg .h)
  | .mlt => .multiply
  | .div => .divide
  | .jrsLt rr => .jump .lt (sext16 rr)
  | .jrsLe rr => .jump .le (sext16 rr)
  | .jrsGt rr => .jump .gt (sext16 rr)
  | .jrsGe rr => .jump .ge (sext16 rr)
  | .jrsV rr => .jump .v (sext16 rr)
  | .jrsNv rr => .jump .nv (sext16 rr)
  | .jrsP rr => .jump .p (sext16 rr)
  | .jrsM rr => .jump .m (sext16 rr)
  | .jrsF0 rr => .jump .f0 (sext16 rr)
  | .jrsF1 rr => .jump .f1 (sext16 rr)
  | .jrsF2 rr => .jump .f2 (sext16 rr)
  | .jrsF3 rr => .jump .f3 (sext16 rr)
  | .jrsNf0 rr => .jump .nf0 (sext16 rr)
  | .jrsNf1 rr => .jump .nf1 (sext16 rr)
  | .jrsNf2 rr => .jump .nf2 (sext16 rr)
  | .jrsNf3 rr => .jump .nf3 (sext16 rr)
  | .carsLt rr => .call .lt (sext16 rr)
  | .carsLe rr => .call .le (sext16 rr)
  | .carsGt rr => .call .gt (sext16 rr)
  | .carsGe rr => .call .ge (sext16 rr)
  | .carsV rr => .call .v (sext16 rr)
  | .carsNv rr => .call .nv (sext16 rr)
  | .carsP rr => .call .p (sext16 rr)
  | .carsM rr => .call .m (sext16 rr)
  | .carsF0 rr => .call .f0 (sext16 rr)
  | .carsF1 rr => .call .f1 (sext16 rr)
  | .carsF2 rr => .call .f2 (sext16 rr)
  | .carsF3 rr => .call .f3 (sext16 rr)
  | .carsNf0 rr => .call .nf0 (sext16 rr)
  | .carsNf1 rr => .call .nf1 (sext16 rr)
  | .carsNf2 rr => .call .nf2 (sext16 rr)
  | .carsNf3 rr => .call .nf3 (sext16 rr)
  | .addBaBa => .arith16 .add .ba (.reg .ba)
  | .addBaHl => .arith16 .add .ba (.reg .hl)
  | .addBaIx => .arith16 .add .ba (.reg .ix)
  | .addBaIy => .arith16 .add .ba (.reg .iy)
  | .adcBaBa => .arith16 .adc .ba (.reg .ba)
  | .adcBaHl => .arith16 .adc .ba (.reg .hl)
  | .adcBaIx => .arith16 .adc .ba (.reg .ix)
  | .adcBaIy => .arith16 .adc .ba (.reg .iy)
  | .subBaBa => .arith16 .sub .ba (.reg .ba)
  | .subBaHl => .arith16 .sub .ba (.reg .hl)
  | .subBaIx => .arith16 .sub .ba (.reg .ix)
  | .subBaIy => .arith16 .sub .ba (.reg .iy)
  | .sbcBaBa => .arith16 .sbc .ba (.reg .ba)
  | .sbcBaHl => .arith16 .sbc .ba (.reg .hl)
  | .sbcBaIx => .arith16 .sbc .ba (.reg .ix)
  | .sbcBaIy => .arith16 .sbc .ba (.reg .iy)
  | .cpBaBa => .compare16 .ba (.reg .ba)
  | .cpBaHl => .compare16 .ba (.reg .hl)
  | .cpBaIx => .compare16 .ba (.reg .ix)
  | .cpBaIy => .compare16 .ba (.reg .iy)
  | .addHlBa => .arith16 .add .hl (.reg .ba)
  | .addHlHl => .arith16 .add .hl (.reg .hl)
  | .addHlIx => .arith16 .add .hl (.reg .ix)
  | .addHlIy => .arith16 .add .hl (.reg .iy)
  | .adcHlBa => .arith16 .adc .hl (.reg .ba)
  | .adcHlHl => .arith16 .adc .hl (.reg .hl)
  | .adcHlIx => .arith16 .adc .hl (.reg .ix)
  | .adcHlIy => .arith16 .adc .hl (.reg .iy)
  | .subHlBa => .arith16 .sub .hl (.reg .ba)
  | .subHlHl => .arith16 .sub .hl (.reg .hl)
  | .subHlIx => .arith16 .sub .hl (.reg .ix)
  | .subHlIy => .arith16 .sub .hl (.reg .iy)
  | .sbcHlBa => .arith16 .sbc .hl (.reg .ba)
  | .sbcHlHl => .arith16 .sbc .hl (.reg .hl)
  | .sbcHlIx => .arith16 .sbc .hl (.reg .ix)
  | .sbcHlIy => .arith16 .sbc .hl (.reg .iy)
  | .cpHlBa => .compare16 .hl (.reg .ba)
  | .cpHlHl => .compare16 .hl (.reg .hl)
  | .cpHlIx => .compare16 .hl (.reg .ix)
  | .cpHlIy => .compare16 .hl (.reg .iy)
  | .addIxBa => .arith16 .add .ix (.reg .ba)
  | .addIxHl => .arith16 .add .ix (.reg .hl)
  | .addIyBa => .arith16 .add .iy (.reg .ba)
  | .addIyHl => .arith16 .add .iy (.reg .hl)
  | .addSpBa => .arith16 .add .sp (.reg .ba)
  | .addSpHl => .arith16 .add .sp (.reg .hl)
  | .subIxBa => .arith16 .sub .ix (.reg .ba)
  | .subIxHl => .arith16 .sub .ix (.reg .hl)
  | .subIyBa => .arith16 .sub .iy (.reg .ba)
  | .subIyHl => .arith16 .sub .iy (.reg .hl)
  | .subSpBa => .arith16 .sub .sp (.reg .ba)
  | .subSpHl => .arith16 .sub .sp (.reg .hl)
  | .cpSpBa => .compare16 .sp (.reg .ba)
  | .cpSpHl => .compare16 .sp (.reg .hl)
  | .adcBaImm mmnn => .arith16 .adc .ba (.imm mmnn)
  | .adcHlImm mmnn => .arith16 .adc .hl (.imm mmnn)
  | .sbcBaImm mmnn => .arith16 .sbc .ba (.imm mmnn)
  | .sbcHlImm mmnn => .arith16 .sbc .hl (.imm mmnn)
  | .addSpImm mmnn => .arith16 .add .sp (.imm mmnn)
  | .subSpImm mmnn => .arith16 .sub .sp (.imm mmnn)
  | .cpSpImm mmnn => .compare16 .sp (.imm mmnn)
  | .ldSpImm mmnn => .load16 (.reg .sp) (.imm mmnn)
  | .ldBaMSpDd dd => .load16 (.reg .ba) (.mem (.spd dd))
  | .ldHlMSpDd dd => .load16 (.reg .hl) (.mem (.spd dd))
  | .ldIxMSpDd dd => .load16 (.reg .ix) (.mem (.spd dd))
  | .ldIyMSpDd dd => .load16 (.reg .iy) (.mem (.spd dd))
  | .ldMSpDdBa dd => .load16 (.mem (.spd dd)) (.reg .ba)
  | .ldMSpDdHl dd => .load16 (.mem (.spd dd)) (.reg .hl)
  | .ldMSpDdIx dd => .load16 (.mem (.spd dd)) (.reg .ix)
  | .ldMSpDdIy dd => .load16 (.mem (.spd dd)) (.reg .iy)
  | .ldSpMAbs hhll => .load16 (.reg .sp) (.mem (.abs hhll))
  | .ldMAbsSp hhll => .load16 (.mem (.abs hhll)) (.reg .sp)
  | .pushA => .pushReg8 .a
  | .pushB => .pushReg8 .b
  | .pushL => .pushReg8 .l
  | .pushH => .pushReg8 .h
  | .popA => .popReg8 .a
  | .popB => .popReg8 .b
  | .popL => .popReg8 .l
  | .popH => .popReg8 .h
  | .pushAll => .pushAll
  | .pushAle => .pushAle
  | .popAll => .popAll
  | .popAle => .popAle
  | .ldBaMHl => .load16 (.reg .ba) (.mem .hl)
  | .ldHlMHl => .load16 (.reg .hl) (.mem .hl)
  | .ldIxMHl => .load16 (.reg .ix) (.mem .hl)
  | .ldIyMHl => .load16 (.reg .iy) (.mem .hl)
  | .ldMHlBa => .load16 (.mem .hl) (.reg .ba)
  | .ldMHlHl => .load16 (.mem .hl) (.reg .hl)
  | .ldMHlIx => .load16 (.mem .hl) (.reg .ix)
  | .ldMHlIy => .load16 (.mem .hl) (.reg .iy)
  | .ldBaMIx => .load16 (.reg .ba) (.mem .ix)
  | .ldHlMIx => .load16 (.reg .hl) (.mem .ix)
  | .ldIxMIx => .load16 (.reg .ix) (.mem .ix)
  | .ldIyMIx => .load16 (.reg .iy) (.mem .ix)
  | .ldMIxBa => .load16 (.mem .ix) (.reg .ba)
  | .ldMIxHl => .load16 (.mem .ix) (.reg .hl)
  | .ldMIxIx => .load16 (.mem .ix) (.reg .ix)
  | .ldMIxIy => .load16 (.mem .ix) (.reg .iy)
  | .ldBaMIy => .load16 (.reg .ba) (.mem .iy)
  | .ldHlMIy => .load16 (.reg .hl) (.mem .iy)
  | .ldIxMIy => .load16 (.reg .ix) (.mem .iy)
  | .ldIyMIy => .load16 (.reg .iy) (.mem .iy)
  | .ldMIyBa => .load16 (.mem .iy) (.reg .ba)
  | .ldMIyHl => .load16 (.mem .iy) (.reg .hl)
  | .ldMIyIx => .load16 (.mem .iy) (.reg .ix)
  | .ldMIyIy => .load16 (.mem .iy) (.reg .iy)
  | .ldBaBa => .load16 (.reg .ba) (.reg .ba)
  | .ldBaHl => .load16 (.reg .ba) (.reg .hl)
  | .ldBaIx => .load16 (.reg .ba) (.reg .ix)
  | .ldBaIy => .load16 (.reg .ba) (.reg .iy)
  | .ldHlBa => .load16 (.reg .hl) (.reg .ba)
  | .ldHlHl => .load16 (.reg .hl) (.reg .hl)
  | .ldHlIx => .load16 (.reg .hl) (.reg .ix)
  | .ldHlIy => .load16 (.reg .hl) (.reg .iy)
  | .ldIxBa => .load16 (.reg .ix) (.reg .ba)
  | .ldIxHl => .load16 (.reg .ix) (.reg .hl)
  | .ldIxIx => .load16 (.reg .ix) (.reg .ix)
  | .ldIxIy => .load16 (.reg .ix) (.reg .iy)
  | .ldIyBa => .load16 (.reg .iy) (.reg .ba)
  | .ldIyHl => .load16 (.reg .iy) (.reg .hl)
  | .ldIyIx => .load16 (.reg .iy) (.reg .ix)
  | .ldIyIy => .load16 (.reg .iy) (.reg .iy)
  | .ldSpBa => .load16 (.reg .sp) (.reg .ba)
  | .ldSpHl => .load16 (.reg .sp) (.reg .hl)
  | .ldSpIx => .load16 (.reg .sp) (.reg .ix)
  | .ldSpIy => .load16 (.reg .sp) (.reg .iy)
  | .ldHlSp => .load16 (.reg .hl) (.reg .sp)
  | .ldHlPc => .load16 (.reg .hl) .pc
  | .ldBaSp => .load16 (.reg .ba) (.reg .sp)
  | .ldBaPc => .load16 (.reg .ba) .pc
  | .ldIxSp => .load16 (.reg .ix) (.reg .sp)
  | .ldIySp => .load16 (.reg .iy) (.reg .sp)

/-! What every form keeps. -/

theorem popReg8_keeps {r : Reg8} {s t : State} (h : popReg8 r s = .ok t) : Keeps s t := by
  obtain ⟨v, u, h1, rfl⟩ := popReg8_ok.1 h
  exact (pop8_keeps h1).trans (set8_keeps _ _ _)

theorem popReg16_keeps {r : Reg16} {s t : State} (h : popReg16 r s = .ok t) : Keeps s t := by
  obtain ⟨v, u, h1, rfl⟩ := popReg16_ok.1 h
  exact (pop16_keeps h1).trans (set16_keeps _ _ _)

theorem popReg8_stop (r : Reg8) (s : State) : StopLeaves s (popReg8 r s) :=
  (pop8_stop s).bind fun _ _ => stopLeaves_ok _ _

theorem popReg16_stop (r : Reg16) (s : State) : StopLeaves s (popReg16 r s) :=
  (pop16_stop s).bind fun _ _ => stopLeaves_ok _ _

theorem pushIp_keeps {s t : State} (h : pushIp s = .ok t) : Keeps s t := by
  obtain ⟨u, h1, h2⟩ := pushIp_ok.1 h
  exact (push8_keeps h1).trans (push8_keeps h2)

theorem popIp_keeps {s t : State} (h : popIp s = .ok t) : Keeps s t := by
  obtain ⟨u, h1, h2⟩ := popIp_ok.1 h
  exact (popReg8_keeps h1).trans (popReg8_keeps h2)

theorem pushAll_keeps {s t : State} (h : pushAll s = .ok t) : Keeps s t := by
  obtain ⟨u1, h1, u2, h2, u3, h3, u4, h4, h5⟩ := pushAll_ok.1 h
  exact (push16_keeps h1).trans ((push16_keeps h2).trans ((push16_keeps h3).trans
    ((push16_keeps h4).trans (push8_keeps h5))))

theorem popAll_keeps {s t : State} (h : popAll s = .ok t) : Keeps s t := by
  obtain ⟨u1, h1, u2, h2, u3, h3, u4, h4, h5⟩ := popAll_ok.1 h
  exact (popReg8_keeps h1).trans ((popReg16_keeps h2).trans ((popReg16_keeps h3).trans
    ((popReg16_keeps h4).trans (popReg16_keeps h5))))

theorem pushIp_stop (s : State) : StopLeaves s (pushIp s) :=
  (push8_stop _ _).bind fun _ h => (push8_stop _ _).from (push8_keeps h)

theorem popIp_stop (s : State) : StopLeaves s (popIp s) :=
  (popReg8_stop _ _).bind fun _ h => (popReg8_stop _ _).from (popReg8_keeps h)

theorem pushAll_stop (s : State) : StopLeaves s (pushAll s) :=
  (push16_stop _ _).bind fun _ h1 => ((push16_stop _ _).bind fun _ h2 => ((push16_stop _ _).bind fun _ h3 =>
    ((push16_stop _ _).bind fun _ h4 => (push8_stop _ _).from (push16_keeps h4)).from (push16_keeps h3)).from
      (push16_keeps h2)).from (push16_keeps h1)

theorem popAll_stop (s : State) : StopLeaves s (popAll s) :=
  (popReg8_stop _ _).bind fun _ h1 => ((popReg16_stop _ _).bind fun _ h2 => ((popReg16_stop _ _).bind fun _ h3 =>
    ((popReg16_stop _ _).bind fun _ h4 => (popReg16_stop _ _).from (popReg16_keeps h4)).from
      (popReg16_keeps h3)).from (popReg16_keeps h2)).from (popReg8_keeps h1)

/-- The state from which DIV takes the zero division exception. -/
theorem zeroDivision_keeps (s : State) : Keeps s ((heldDividend s).setZdivPending false) :=
  ⟨id, rfl, rfl, rfl, fun _ => rfl, id, id⟩

theorem divide_stop (s : State) : StopLeaves s (divide s) := by
  unfold divide
  split
  · exact (exceptionEntry_stop _ _).from (zeroDivision_keeps s)
  · dsimp only
    split <;> exact stopLeaves_ok _ _

theorem call_stop (cond : Cond) (offset : Word) (s : State) : StopLeaves s (call cond offset s) := by
  unfold call
  split
  · exact (callPush_stop _).bind fun _ _ => stopLeaves_ok _ _
  · exact stopLeaves_ok _ _

/-- Every form keeps it where it answers. -/
theorem Form.run_keeps {f : Form} {s t : State} (h : f.run s = .ok t) : Keeps s t := by
  cases f with
  | arith8 op dst src =>
    obtain ⟨b, s1, a, s2, u, h1, h2, h3, rfl⟩ := arith8_ok.1 h
    exact (source8_access h1).keeps.trans ((read8_access h2).keeps.trans
      ((write8_keeps h3).trans (setNVCZ_keeps _ _)))
  | compare8 dst src =>
    obtain ⟨b, s1, a, s2, h1, h2, rfl⟩ := compare8_ok.1 h
    exact (source8_access h1).keeps.trans ((read8_access h2).keeps.trans (setNVCZ_keeps _ _))
  | inc8 loc =>
    obtain ⟨x, s1, u, h1, h2, rfl⟩ := inc8_ok.1 h
    exact (read8_access h1).keeps.trans ((write8_keeps h2).trans (setFlag_keeps _ _ _))
  | dec8 loc =>
    obtain ⟨x, s1, u, h1, h2, rfl⟩ := dec8_ok.1 h
    exact (read8_access h1).keeps.trans ((write8_keeps h2).trans (setFlag_keeps _ _ _))
  | negate8 loc =>
    obtain ⟨x, s1, u, h1, h2, rfl⟩ := negate8_ok.1 h
    exact (read8_access h1).keeps.trans ((write8_keeps h2).trans (setNVCZ_keeps _ _))
  | multiply => cases multiply_ok.1 h; exact (set16_keeps _ _ _).trans (setNVCZ_keeps _ _)
  | divide =>
    have h := divide_ok.1 h
    split at h
    · exact (zeroDivision_keeps s).trans (exceptionEntry_keeps h).1
    · split at h
      · subst h; exact setNVCZ_keeps _ _
      · subst h; exact (set8_keeps _ _ _).trans ((set8_keeps _ _ _).trans (setNVCZ_keeps _ _))
  | logic8 op dst src =>
    obtain ⟨b, s1, a, s2, u, h1, h2, h3, rfl⟩ := logic8_ok.1 h
    exact (source8_access h1).keeps.trans ((read8_access h2).keeps.trans
      ((write8_keeps h3).trans (setNZ_keeps _ _)))
  | logicSc op nn => cases logicSc_ok.1 h; exact setSc_keeps _ _
  | bitTest dst src =>
    obtain ⟨b, s1, a, s2, h1, h2, rfl⟩ := bitTest_ok.1 h
    exact (source8_access h1).keeps.trans ((read8_access h2).keeps.trans (setNZ_keeps _ _))
  | complement8 loc =>
    obtain ⟨x, s1, u, h1, h2, rfl⟩ := complement8_ok.1 h
    exact (read8_access h1).keeps.trans ((write8_keeps h2).trans (setNZ_keeps _ _))
  | load8 dst src =>
    obtain ⟨v, s1, h1, h2⟩ := load8_ok.1 h
    exact (source8_access h1).keeps.trans (write8_keeps h2)
  | exchangeAB => cases exchangeAB_ok.1 h; exact .of_same rfl rfl rfl rfl rfl rfl
  | exchangeAHl =>
    obtain ⟨m, s1, u, h1, h2, rfl⟩ := exchangeAHl_ok.1 h
    exact (readByte_access h1).keeps.trans ((writeByte_access h2).keeps.trans (set8_keeps _ _ _))
  | swapDigits loc =>
    obtain ⟨x, s1, h1, h2⟩ := swapDigits_ok.1 h
    exact (read8_access h1).keeps.trans (write8_keeps h2)
  | load16 dst src =>
    obtain ⟨v, s1, h1, h2⟩ := load16_ok.1 h
    exact (source16_access h1).keeps.trans (write16_keeps h2)
  | exchangeBa rp => cases exchangeBa_ok.1 h; exact (set16_keeps _ _ _).trans (set16_keeps _ _ _)
  | arith16 op dst src =>
    obtain ⟨b, s1, h1, rfl⟩ := arith16_ok.1 h
    exact (source16_access h1).keeps.trans ((set16_keeps _ _ _).trans (setNVCZ_keeps _ _))
  | compare16 dst src =>
    obtain ⟨b, s1, h1, rfl⟩ := compare16_ok.1 h
    exact (source16_access h1).keeps.trans (setNVCZ_keeps _ _)
  | inc16 r => cases inc16_ok.1 h; exact (set16_keeps _ _ _).trans (setFlag_keeps _ _ _)
  | dec16 r => cases dec16_ok.1 h; exact (set16_keeps _ _ _).trans (setFlag_keeps _ _ _)
  | packDigits => cases h; exact set8_keeps _ _ _
  | unpackDigits => cases h; exact (set8_keeps _ _ _).trans (set8_keeps _ _ _)
  | signExtendA => cases h; exact set8_keeps _ _ _
  | shift8 op loc =>
    obtain ⟨x, s1, u, h1, h2, rfl⟩ := shift8_ok.1 h
    exact (read8_access h1).keeps.trans ((write8_keeps h2).trans (setNVCZ_keeps _ _))
  | pushReg8 r => exact push8_keeps h
  | popReg8 r => exact popReg8_keeps h
  | pushReg16 r => exact push16_keeps h
  | popReg16 r => exact popReg16_keeps h
  | pushIp => exact pushIp_keeps h
  | popIp => exact popIp_keeps h
  | pushAll => exact pushAll_keeps h
  | popAll => exact popAll_keeps h
  | pushAle =>
    obtain ⟨u1, h1, u2, h2, h3⟩ := pushAle_ok.1 h
    exact (pushAll_keeps h1).trans ((push8_keeps h2).trans (pushIp_keeps h3))
  | popAle =>
    obtain ⟨u1, h1, u2, h2, h3⟩ := popAle_ok.1 h
    exact (popIp_keeps h1).trans ((popReg8_keeps h2).trans (popAll_keeps h3))
  | jump cond offset =>
    cases jump_ok.1 h
    split
    · exact branch_keeps _ _
    · exact noBranch_keeps _
  | decrementJump offset =>
    cases decrementJump_ok.1 h
    split
    · exact (set8_keeps _ _ _).trans ((setFlag_keeps _ _ _).trans (noBranch_keeps _))
    · exact (set8_keeps _ _ _).trans ((setFlag_keeps _ _ _).trans (branch_keeps _ _))
  | jumpHl => cases h; exact branch_keeps _ _
  | jumpVector kk =>
    obtain ⟨v, u, h1, rfl⟩ := jumpVector_ok.1 h
    exact (readWord_access h1).keeps.trans (branch_keeps _ _)
  | call cond offset =>
    have h := call_ok.1 h
    split at h
    · obtain ⟨u, h1, rfl⟩ := h; exact (callPush_keeps h1).trans (branch_keeps _ _)
    · subst h; exact noBranch_keeps _
  | callIndirect hhll =>
    obtain ⟨u, h1, v, w, h2, rfl⟩ := callIndirect_ok.1 h
    exact (callPush_keeps h1).trans ((readWord_access h2).keeps.trans (branch_keeps _ _))
  | returnPlain => exact retPop_keeps h
  | returnException => exact exceptionReturn_keeps h
  | returnSkip =>
    obtain ⟨u, h1, rfl⟩ := returnSkip_ok.1 h
    exact (retPop_keeps h1).trans (setPc_keeps _ _)
  | softInterrupt kk =>
    obtain ⟨u, h1, v, w, h2, rfl⟩ := softInterrupt_ok.1 h
    exact .through_exception (t := s.setStatus .exception) rfl rfl rfl rfl rfl
      ((pushFrame_keeps h1).trans ((readWord_access h2).keeps.trans (branch_keeps _ _)))
  | noOperation => cases h; exact Keeps.refl _
  | enterHalt => cases h; exact ⟨id, rfl, rfl, rfl, id, fun _ => by simp, fun _ => by simp⟩
  | enterSleep => cases h; exact ⟨id, rfl, rfl, rfl, id, fun _ => by simp, fun _ => by simp⟩

/-- What it leaves where it ends early. -/
theorem Form.run_stop (f : Form) (s : State) : StopLeaves s (f.run s) := by
  cases f with
  | arith8 op dst src =>
    exact (source8_stop _ _).bind fun _ h1 => ((read8_stop _ _).bind fun _ h2 =>
      ((write8_stop _ _ _).bind fun _ _ => stopLeaves_ok _ _).from (read8_access h2).keeps).from
        (source8_access h1).keeps
  | compare8 dst src =>
    exact (source8_stop _ _).bind fun _ h1 => ((read8_stop _ _).bind fun _ _ => stopLeaves_ok _ _).from
      (source8_access h1).keeps
  | inc8 loc =>
    exact (read8_stop _ _).bind fun _ h => ((write8_stop _ _ _).bind fun _ _ => stopLeaves_ok _ _).from
      (read8_access h).keeps
  | dec8 loc =>
    exact (read8_stop _ _).bind fun _ h => ((write8_stop _ _ _).bind fun _ _ => stopLeaves_ok _ _).from
      (read8_access h).keeps
  | negate8 loc =>
    exact (read8_stop _ _).bind fun _ h => ((write8_stop _ _ _).bind fun _ _ => stopLeaves_ok _ _).from
      (read8_access h).keeps
  | multiply => exact stopLeaves_ok _ _
  | divide =>
    exact divide_stop s
  | logic8 op dst src =>
    exact (source8_stop _ _).bind fun _ h1 => ((read8_stop _ _).bind fun _ h2 =>
      ((write8_stop _ _ _).bind fun _ _ => stopLeaves_ok _ _).from (read8_access h2).keeps).from
        (source8_access h1).keeps
  | logicSc op nn => exact stopLeaves_ok _ _
  | bitTest dst src =>
    exact (source8_stop _ _).bind fun _ h1 => ((read8_stop _ _).bind fun _ _ => stopLeaves_ok _ _).from
      (source8_access h1).keeps
  | complement8 loc =>
    exact (read8_stop _ _).bind fun _ h => ((write8_stop _ _ _).bind fun _ _ => stopLeaves_ok _ _).from
      (read8_access h).keeps
  | load8 dst src =>
    exact (source8_stop _ _).bind fun _ h => (write8_stop _ _ _).from (source8_access h).keeps
  | exchangeAB => exact stopLeaves_ok _ _
  | exchangeAHl =>
    exact (readByte_stop _ _).bind fun _ h => ((writeByte_stop _ _ _).bind fun _ _ => stopLeaves_ok _ _).from
      (readByte_access h).keeps
  | swapDigits loc => exact (read8_stop _ _).bind fun _ h => (write8_stop _ _ _).from (read8_access h).keeps
  | load16 dst src =>
    exact (source16_stop _ _).bind fun _ h => (write16_stop _ _ _).from (source16_access h).keeps
  | exchangeBa rp => exact stopLeaves_ok _ _
  | arith16 op dst src => exact (source16_stop _ _).bind fun _ _ => stopLeaves_ok _ _
  | compare16 dst src => exact (source16_stop _ _).bind fun _ _ => stopLeaves_ok _ _
  | inc16 r => exact stopLeaves_ok _ _
  | dec16 r => exact stopLeaves_ok _ _
  | packDigits => exact stopLeaves_ok _ _
  | unpackDigits => exact stopLeaves_ok _ _
  | signExtendA => exact stopLeaves_ok _ _
  | shift8 op loc =>
    exact (read8_stop _ _).bind fun _ h => ((write8_stop _ _ _).bind fun _ _ => stopLeaves_ok _ _).from
      (read8_access h).keeps
  | pushReg8 r => exact push8_stop _ _
  | popReg8 r => exact popReg8_stop _ _
  | pushReg16 r => exact push16_stop _ _
  | popReg16 r => exact popReg16_stop _ _
  | pushIp => exact pushIp_stop _
  | popIp => exact popIp_stop _
  | pushAll => exact pushAll_stop _
  | popAll => exact popAll_stop _
  | pushAle =>
    exact (pushAll_stop _).bind fun _ h1 => ((push8_stop _ _).bind fun _ h2 =>
      (pushIp_stop _).from (push8_keeps h2)).from (pushAll_keeps h1)
  | popAle =>
    exact (popIp_stop _).bind fun _ h1 => ((popReg8_stop _ _).bind fun _ h2 =>
      (popAll_stop _).from (popReg8_keeps h2)).from (popIp_keeps h1)
  | jump cond offset => exact stopLeaves_ok _ _
  | decrementJump offset => exact stopLeaves_ok _ _
  | jumpHl => exact stopLeaves_ok _ _
  | jumpVector kk => exact (readWord_stop _ _ _).bind fun _ _ => stopLeaves_ok _ _
  | call cond offset =>
    exact call_stop cond offset s
  | callIndirect hhll =>
    exact (callPush_stop _).bind fun _ h => ((readWord_stop _ _ _).bind fun _ _ => stopLeaves_ok _ _).from
      (callPush_keeps h)
  | returnPlain => exact retPop_stop _
  | returnException => exact exceptionReturn_stop _
  | returnSkip => exact (retPop_stop _).bind fun _ _ => stopLeaves_ok _ _
  | softInterrupt kk =>
    exact StopLeaves.after (setStatus_leaves s .exception) ((pushFrame_stop _).bind fun _ h =>
      ((readWord_stop _ _ _).bind fun _ _ => stopLeaves_ok _ _).from (pushFrame_keeps h))
  | noOperation => exact stopLeaves_ok _ _
  | enterHalt => exact stopLeaves_ok _ _
  | enterSleep => exact stopLeaves_ok _ _

/-- Every meaning is its form, on a model that has the unit it needs. -/
theorem exec_form (i : Instr) (s : State) :
    exec i s = conclude (requires i.need s ((formOf i).run s)) := by
  cases i <;> rfl

/-- An instruction answers a next state when its model has it and its form answers, or is cut. -/
theorem exec_next {i : Instr} {s t : State} :
    exec i s = .next t ↔ i.need.metBy s.cfg.model = true ∧
      ((formOf i).run s = .ok t ∨ ∃ u, (formOf i).run s = .error (.reset u) ∧ t = resetAssert u) := by
  rw [exec_form, conclude_next]
  cases h : i.need.metBy s.cfg.model with
  | true => simp [requires_met h]
  | false => obtain ⟨-, hr⟩ | ⟨-, hr⟩ := requires_unmet h ((formOf i).run s) <;> simp [hr]

/-- An instruction that faults leaves memory canonical and the device as it is. -/
theorem exec_fault_leaves {i : Instr} {s : State} {f : Fault} (h : exec i s = .fault f) : Leaves s f.state := by
  rw [exec_form, conclude_fault] at h
  cases m : i.need.metBy s.cfg.model with
  | true => rw [requires_met m] at h; exact Form.run_stop _ s _ h
  | false =>
    obtain ⟨-, e⟩ | ⟨-, e⟩ := requires_unmet m ((formOf i).run s) <;> rw [e] at h <;> cases h <;>
      exact Leaves.refl s

/-- No instruction is refused. -/
theorem exec_refused {i : Instr} {s : State} {r : Refusal} : exec i s ≠ .refused r := by
  rw [exec_form]; exact conclude_refused

end Sys2Proof.Machine
end

