-- ==== Sys2Proof/Laws/PerInstr.lean ====
section
/-! SUPPORT. Per instruction: the length of the encoding is the one that rule R106 reads from the op-code alone. -/

namespace Sys2Proof.Laws

/-- The length by the first op-code (R106). -/
def firstLength (b : Byte) : Nat :=
  let n := b.toNat
  if n < 0x40 then (if n % 8 = 5 then 3 else if n % 8 = 2 ∨ n % 8 = 4 then 2 else 1)
  else if n < 0x78 then (if n % 8 = 4 then 2 else 1)
  else if n < 0x80 then 2
  else if n < 0xA0 then (if n ∈ [0x85, 0x8D, 0x95, 0x96, 0x97, 0x9C, 0x9D, 0x9E, 0x9F] then 2 else 1)
  else if n < 0xB0 then 1
  else if n < 0xB8 then 2
  else if n < 0xC8 then 3
  else if n < 0xD0 then 1
  else if n < 0xDE then 3
  else if n < 0xE0 then 1
  else if n < 0xE8 then 2
  else if n < 0xF0 then 3
  else if n ∈ [0xF0, 0xF1, 0xF5, 0xFC, 0xFD] then 2
  else if n ∈ [0xF2, 0xF3, 0xFB] then 3
  else 1

/-- The length after CEH (R106). -/
def ceLength (b : Byte) : Nat :=
  let n := b.toNat
  if n < 0x40 then (if n % 8 ∈ [0, 1, 5] then 3 else 2)
  else if n < 0x60 then (if n % 8 ∈ [0, 1, 4, 5] then 3 else 2)
  else if n < 0x80 then (if n % 4 < 2 then 3 else 2)
  else if n < 0xA0 then (if n % 4 = 2 then 3 else 2)
  else if n < 0xB0 then (if n = 0xA2 ∨ n = 0xA6 then 3 else 2)
  else if n < 0xC0 then 3
  else if n < 0xD0 then (if 0xC4 ≤ n ∧ n ≤ 0xC7 then 3 else 2)
  else if n < 0xD8 then 4
  else if n < 0xE0 then 2
  else 3

/-- The length after CFH (R106). -/
def cfLength (b : Byte) : Nat :=
  let n := b.toNat
  if n ∈ [0x60, 0x61, 0x62, 0x63, 0x68, 0x6A, 0x6C, 0x6E, 0x78, 0x7C] then 4
  else if 0x70 ≤ n ∧ n ≤ 0x77 then 3
  else 2

/-- The length by the op-code (R106). -/
def lengthByOpcode : OpCode → Nat
  | .one b => firstLength b
  | .ce b => ceLength b
  | .cf b => cfLength b

/-- The encoding is as long as R106 says of its op-code. -/
def CodeLength.Statement (i : Instr) : Prop := lengthByOpcode (opcodeOf i) = lengthOf i

theorem CodeLength.addAA : CodeLength.Statement .addAA := rfl
theorem CodeLength.addAB : CodeLength.Statement .addAB := rfl
theorem CodeLength.addAImm (nn : Byte) : CodeLength.Statement (.addAImm nn) := rfl
theorem CodeLength.addAMHl : CodeLength.Statement .addAMHl := rfl
theorem CodeLength.addAMBr (ll : Byte) : CodeLength.Statement (.addAMBr ll) := rfl
theorem CodeLength.addAMAbs (hhll : Word) : CodeLength.Statement (.addAMAbs hhll) := rfl
theorem CodeLength.addAMIx : CodeLength.Statement .addAMIx := rfl
theorem CodeLength.addAMIy : CodeLength.Statement .addAMIy := rfl
theorem CodeLength.adcAA : CodeLength.Statement .adcAA := rfl
theorem CodeLength.adcAB : CodeLength.Statement .adcAB := rfl
theorem CodeLength.adcAImm (nn : Byte) : CodeLength.Statement (.adcAImm nn) := rfl
theorem CodeLength.adcAMHl : CodeLength.Statement .adcAMHl := rfl
theorem CodeLength.adcAMBr (ll : Byte) : CodeLength.Statement (.adcAMBr ll) := rfl
theorem CodeLength.adcAMAbs (hhll : Word) : CodeLength.Statement (.adcAMAbs hhll) := rfl
theorem CodeLength.adcAMIx : CodeLength.Statement .adcAMIx := rfl
theorem CodeLength.adcAMIy : CodeLength.Statement .adcAMIy := rfl
theorem CodeLength.subAA : CodeLength.Statement .subAA := rfl
theorem CodeLength.subAB : CodeLength.Statement .subAB := rfl
theorem CodeLength.subAImm (nn : Byte) : CodeLength.Statement (.subAImm nn) := rfl
theorem CodeLength.subAMHl : CodeLength.Statement .subAMHl := rfl
theorem CodeLength.subAMBr (ll : Byte) : CodeLength.Statement (.subAMBr ll) := rfl
theorem CodeLength.subAMAbs (hhll : Word) : CodeLength.Statement (.subAMAbs hhll) := rfl
theorem CodeLength.subAMIx : CodeLength.Statement .subAMIx := rfl
theorem CodeLength.subAMIy : CodeLength.Statement .subAMIy := rfl
theorem CodeLength.sbcAA : CodeLength.Statement .sbcAA := rfl
theorem CodeLength.sbcAB : CodeLength.Statement .sbcAB := rfl
theorem CodeLength.sbcAImm (nn : Byte) : CodeLength.Statement (.sbcAImm nn) := rfl
theorem CodeLength.sbcAMHl : CodeLength.Statement .sbcAMHl := rfl
theorem CodeLength.sbcAMBr (ll : Byte) : CodeLength.Statement (.sbcAMBr ll) := rfl
theorem CodeLength.sbcAMAbs (hhll : Word) : CodeLength.Statement (.sbcAMAbs hhll) := rfl
theorem CodeLength.sbcAMIx : CodeLength.Statement .sbcAMIx := rfl
theorem CodeLength.sbcAMIy : CodeLength.Statement .sbcAMIy := rfl
theorem CodeLength.andAA : CodeLength.Statement .andAA := rfl
theorem CodeLength.andAB : CodeLength.Statement .andAB := rfl
theorem CodeLength.andAImm (nn : Byte) : CodeLength.Statement (.andAImm nn) := rfl
theorem CodeLength.andAMHl : CodeLength.Statement .andAMHl := rfl
theorem CodeLength.andAMBr (ll : Byte) : CodeLength.Statement (.andAMBr ll) := rfl
theorem CodeLength.andAMAbs (hhll : Word) : CodeLength.Statement (.andAMAbs hhll) := rfl
theorem CodeLength.andAMIx : CodeLength.Statement .andAMIx := rfl
theorem CodeLength.andAMIy : CodeLength.Statement .andAMIy := rfl
theorem CodeLength.orAA : CodeLength.Statement .orAA := rfl
theorem CodeLength.orAB : CodeLength.Statement .orAB := rfl
theorem CodeLength.orAImm (nn : Byte) : CodeLength.Statement (.orAImm nn) := rfl
theorem CodeLength.orAMHl : CodeLength.Statement .orAMHl := rfl
theorem CodeLength.orAMBr (ll : Byte) : CodeLength.Statement (.orAMBr ll) := rfl
theorem CodeLength.orAMAbs (hhll : Word) : CodeLength.Statement (.orAMAbs hhll) := rfl
theorem CodeLength.orAMIx : CodeLength.Statement .orAMIx := rfl
theorem CodeLength.orAMIy : CodeLength.Statement .orAMIy := rfl
theorem CodeLength.cpAA : CodeLength.Statement .cpAA := rfl
theorem CodeLength.cpAB : CodeLength.Statement .cpAB := rfl
theorem CodeLength.cpAImm (nn : Byte) : CodeLength.Statement (.cpAImm nn) := rfl
theorem CodeLength.cpAMHl : CodeLength.Statement .cpAMHl := rfl
theorem CodeLength.cpAMBr (ll : Byte) : CodeLength.Statement (.cpAMBr ll) := rfl
theorem CodeLength.cpAMAbs (hhll : Word) : CodeLength.Statement (.cpAMAbs hhll) := rfl
theorem CodeLength.cpAMIx : CodeLength.Statement .cpAMIx := rfl
theorem CodeLength.cpAMIy : CodeLength.Statement .cpAMIy := rfl
theorem CodeLength.xorAA : CodeLength.Statement .xorAA := rfl
theorem CodeLength.xorAB : CodeLength.Statement .xorAB := rfl
theorem CodeLength.xorAImm (nn : Byte) : CodeLength.Statement (.xorAImm nn) := rfl
theorem CodeLength.xorAMHl : CodeLength.Statement .xorAMHl := rfl
theorem CodeLength.xorAMBr (ll : Byte) : CodeLength.Statement (.xorAMBr ll) := rfl
theorem CodeLength.xorAMAbs (hhll : Word) : CodeLength.Statement (.xorAMAbs hhll) := rfl
theorem CodeLength.xorAMIx : CodeLength.Statement .xorAMIx := rfl
theorem CodeLength.xorAMIy : CodeLength.Statement .xorAMIy := rfl
theorem CodeLength.ldAA : CodeLength.Statement .ldAA := rfl
theorem CodeLength.ldAB : CodeLength.Statement .ldAB := rfl
theorem CodeLength.ldAL : CodeLength.Statement .ldAL := rfl
theorem CodeLength.ldAH : CodeLength.Statement .ldAH := rfl
theorem CodeLength.ldAMBr (ll : Byte) : CodeLength.Statement (.ldAMBr ll) := rfl
theorem CodeLength.ldAMHl : CodeLength.Statement .ldAMHl := rfl
theorem CodeLength.ldAMIx : CodeLength.Statement .ldAMIx := rfl
theorem CodeLength.ldAMIy : CodeLength.Statement .ldAMIy := rfl
theorem CodeLength.ldBA : CodeLength.Statement .ldBA := rfl
theorem CodeLength.ldBB : CodeLength.Statement .ldBB := rfl
theorem CodeLength.ldBL : CodeLength.Statement .ldBL := rfl
theorem CodeLength.ldBH : CodeLength.Statement .ldBH := rfl
theorem CodeLength.ldBMBr (ll : Byte) : CodeLength.Statement (.ldBMBr ll) := rfl
theorem CodeLength.ldBMHl : CodeLength.Statement .ldBMHl := rfl
theorem CodeLength.ldBMIx : CodeLength.Statement .ldBMIx := rfl
theorem CodeLength.ldBMIy : CodeLength.Statement .ldBMIy := rfl
theorem CodeLength.ldLA : CodeLength.Statement .ldLA := rfl
theorem CodeLength.ldLB : CodeLength.Statement .ldLB := rfl
theorem CodeLength.ldLL : CodeLength.Statement .ldLL := rfl
theorem CodeLength.ldLH : CodeLength.Statement .ldLH := rfl
theorem CodeLength.ldLMBr (ll : Byte) : CodeLength.Statement (.ldLMBr ll) := rfl
theorem CodeLength.ldLMHl : CodeLength.Statement .ldLMHl := rfl
theorem CodeLength.ldLMIx : CodeLength.Statement .ldLMIx := rfl
theorem CodeLength.ldLMIy : CodeLength.Statement .ldLMIy := rfl
theorem CodeLength.ldHA : CodeLength.Statement .ldHA := rfl
theorem CodeLength.ldHB : CodeLength.Statement .ldHB := rfl
theorem CodeLength.ldHL : CodeLength.Statement .ldHL := rfl
theorem CodeLength.ldHH : CodeLength.Statement .ldHH := rfl
theorem CodeLength.ldHMBr (ll : Byte) : CodeLength.Statement (.ldHMBr ll) := rfl
theorem CodeLength.ldHMHl : CodeLength.Statement .ldHMHl := rfl
theorem CodeLength.ldHMIx : CodeLength.Statement .ldHMIx := rfl
theorem CodeLength.ldHMIy : CodeLength.Statement .ldHMIy := rfl
theorem CodeLength.ldMIxA : CodeLength.Statement .ldMIxA := rfl
theorem CodeLength.ldMIxB : CodeLength.Statement .ldMIxB := rfl
theorem CodeLength.ldMIxL : CodeLength.Statement .ldMIxL := rfl
theorem CodeLength.ldMIxH : CodeLength.Statement .ldMIxH := rfl
theorem CodeLength.ldMIxMBr (ll : Byte) : CodeLength.Statement (.ldMIxMBr ll) := rfl
theorem CodeLength.ldMIxMHl : CodeLength.Statement .ldMIxMHl := rfl
theorem CodeLength.ldMIxMIx : CodeLength.Statement .ldMIxMIx := rfl
theorem CodeLength.ldMIxMIy : CodeLength.Statement .ldMIxMIy := rfl
theorem CodeLength.ldMHlA : CodeLength.Statement .ldMHlA := rfl
theorem CodeLength.ldMHlB : CodeLength.Statement .ldMHlB := rfl
theorem CodeLength.ldMHlL : CodeLength.Statement .ldMHlL := rfl
theorem CodeLength.ldMHlH : CodeLength.Statement .ldMHlH := rfl
theorem CodeLength.ldMHlMBr (ll : Byte) : CodeLength.Statement (.ldMHlMBr ll) := rfl
theorem CodeLength.ldMHlMHl : CodeLength.Statement .ldMHlMHl := rfl
theorem CodeLength.ldMHlMIx : CodeLength.Statement .ldMHlMIx := rfl
theorem CodeLength.ldMHlMIy : CodeLength.Statement .ldMHlMIy := rfl
theorem CodeLength.ldMIyA : CodeLength.Statement .ldMIyA := rfl
theorem CodeLength.ldMIyB : CodeLength.Statement .ldMIyB := rfl
theorem CodeLength.ldMIyL : CodeLength.Statement .ldMIyL := rfl
theorem CodeLength.ldMIyH : CodeLength.Statement .ldMIyH := rfl
theorem CodeLength.ldMIyMBr (ll : Byte) : CodeLength.Statement (.ldMIyMBr ll) := rfl
theorem CodeLength.ldMIyMHl : CodeLength.Statement .ldMIyMHl := rfl
theorem CodeLength.ldMIyMIx : CodeLength.Statement .ldMIyMIx := rfl
theorem CodeLength.ldMIyMIy : CodeLength.Statement .ldMIyMIy := rfl
theorem CodeLength.ldMBrA (ll : Byte) : CodeLength.Statement (.ldMBrA ll) := rfl
theorem CodeLength.ldMBrB (ll : Byte) : CodeLength.Statement (.ldMBrB ll) := rfl
theorem CodeLength.ldMBrL (ll : Byte) : CodeLength.Statement (.ldMBrL ll) := rfl
theorem CodeLength.ldMBrH (ll : Byte) : CodeLength.Statement (.ldMBrH ll) := rfl
theorem CodeLength.ldMBrMHl (ll : Byte) : CodeLength.Statement (.ldMBrMHl ll) := rfl
theorem CodeLength.ldMBrMIx (ll : Byte) : CodeLength.Statement (.ldMBrMIx ll) := rfl
theorem CodeLength.ldMBrMIy (ll : Byte) : CodeLength.Statement (.ldMBrMIy ll) := rfl
theorem CodeLength.incA : CodeLength.Statement .incA := rfl
theorem CodeLength.incB : CodeLength.Statement .incB := rfl
theorem CodeLength.incL : CodeLength.Statement .incL := rfl
theorem CodeLength.incH : CodeLength.Statement .incH := rfl
theorem CodeLength.incBr : CodeLength.Statement .incBr := rfl
theorem CodeLength.incMBr (ll : Byte) : CodeLength.Statement (.incMBr ll) := rfl
theorem CodeLength.incMHl : CodeLength.Statement .incMHl := rfl
theorem CodeLength.incSp : CodeLength.Statement .incSp := rfl
theorem CodeLength.decA : CodeLength.Statement .decA := rfl
theorem CodeLength.decB : CodeLength.Statement .decB := rfl
theorem CodeLength.decL : CodeLength.Statement .decL := rfl
theorem CodeLength.decH : CodeLength.Statement .decH := rfl
theorem CodeLength.decBr : CodeLength.Statement .decBr := rfl
theorem CodeLength.decMBr (ll : Byte) : CodeLength.Statement (.decMBr ll) := rfl
theorem CodeLength.decMHl : CodeLength.Statement .decMHl := rfl
theorem CodeLength.decSp : CodeLength.Statement .decSp := rfl
theorem CodeLength.incBa : CodeLength.Statement .incBa := rfl
theorem CodeLength.incHl : CodeLength.Statement .incHl := rfl
theorem CodeLength.incIx : CodeLength.Statement .incIx := rfl
theorem CodeLength.incIy : CodeLength.Statement .incIy := rfl
theorem CodeLength.bitAB : CodeLength.Statement .bitAB := rfl
theorem CodeLength.bitMHlImm (nn : Byte) : CodeLength.Statement (.bitMHlImm nn) := rfl
theorem CodeLength.bitAImm (nn : Byte) : CodeLength.Statement (.bitAImm nn) := rfl
theorem CodeLength.bitBImm (nn : Byte) : CodeLength.Statement (.bitBImm nn) := rfl
theorem CodeLength.decBa : CodeLength.Statement .decBa := rfl
theorem CodeLength.decHl : CodeLength.Statement .decHl := rfl
theorem CodeLength.decIx : CodeLength.Statement .decIx := rfl
theorem CodeLength.decIy : CodeLength.Statement .decIy := rfl
theorem CodeLength.andScImm (nn : Byte) : CodeLength.Statement (.andScImm nn) := rfl
theorem CodeLength.orScImm (nn : Byte) : CodeLength.Statement (.orScImm nn) := rfl
theorem CodeLength.xorScImm (nn : Byte) : CodeLength.Statement (.xorScImm nn) := rfl
theorem CodeLength.ldScImm (nn : Byte) : CodeLength.Statement (.ldScImm nn) := rfl
theorem CodeLength.pushBa : CodeLength.Statement .pushBa := rfl
theorem CodeLength.pushHl : CodeLength.Statement .pushHl := rfl
theorem CodeLength.pushIx : CodeLength.Statement .pushIx := rfl
theorem CodeLength.pushIy : CodeLength.Statement .pushIy := rfl
theorem CodeLength.pushBr : CodeLength.Statement .pushBr := rfl
theorem CodeLength.pushEp : CodeLength.Statement .pushEp := rfl
theorem CodeLength.pushIp : CodeLength.Statement .pushIp := rfl
theorem CodeLength.pushSc : CodeLength.Statement .pushSc := rfl
theorem CodeLength.popBa : CodeLength.Statement .popBa := rfl
theorem CodeLength.popHl : CodeLength.Statement .popHl := rfl
theorem CodeLength.popIx : CodeLength.Statement .popIx := rfl
theorem CodeLength.popIy : CodeLength.Statement .popIy := rfl
theorem CodeLength.popBr : CodeLength.Statement .popBr := rfl
theorem CodeLength.popEp : CodeLength.Statement .popEp := rfl
theorem CodeLength.popIp : CodeLength.Statement .popIp := rfl
theorem CodeLength.popSc : CodeLength.Statement .popSc := rfl
theorem CodeLength.ldAImm (nn : Byte) : CodeLength.Statement (.ldAImm nn) := rfl
theorem CodeLength.ldBImm (nn : Byte) : CodeLength.Statement (.ldBImm nn) := rfl
theorem CodeLength.ldLImm (nn : Byte) : CodeLength.Statement (.ldLImm nn) := rfl
theorem CodeLength.ldHImm (nn : Byte) : CodeLength.Statement (.ldHImm nn) := rfl
theorem CodeLength.ldBrImm (hh : Byte) : CodeLength.Statement (.ldBrImm hh) := rfl
theorem CodeLength.ldMHlImm (nn : Byte) : CodeLength.Statement (.ldMHlImm nn) := rfl
theorem CodeLength.ldMIxImm (nn : Byte) : CodeLength.Statement (.ldMIxImm nn) := rfl
theorem CodeLength.ldMIyImm (nn : Byte) : CodeLength.Statement (.ldMIyImm nn) := rfl
theorem CodeLength.ldBaMAbs (hhll : Word) : CodeLength.Statement (.ldBaMAbs hhll) := rfl
theorem CodeLength.ldHlMAbs (hhll : Word) : CodeLength.Statement (.ldHlMAbs hhll) := rfl
theorem CodeLength.ldIxMAbs (hhll : Word) : CodeLength.Statement (.ldIxMAbs hhll) := rfl
theorem CodeLength.ldIyMAbs (hhll : Word) : CodeLength.Statement (.ldIyMAbs hhll) := rfl
theorem CodeLength.ldMAbsBa (hhll : Word) : CodeLength.Statement (.ldMAbsBa hhll) := rfl
theorem CodeLength.ldMAbsHl (hhll : Word) : CodeLength.Statement (.ldMAbsHl hhll) := rfl
theorem CodeLength.ldMAbsIx (hhll : Word) : CodeLength.Statement (.ldMAbsIx hhll) := rfl
theorem CodeLength.ldMAbsIy (hhll : Word) : CodeLength.Statement (.ldMAbsIy hhll) := rfl
theorem CodeLength.addBaImm (mmnn : Word) : CodeLength.Statement (.addBaImm mmnn) := rfl
theorem CodeLength.addHlImm (mmnn : Word) : CodeLength.Statement (.addHlImm mmnn) := rfl
theorem CodeLength.addIxImm (mmnn : Word) : CodeLength.Statement (.addIxImm mmnn) := rfl
theorem CodeLength.addIyImm (mmnn : Word) : CodeLength.Statement (.addIyImm mmnn) := rfl
theorem CodeLength.ldBaImm (mmnn : Word) : CodeLength.Statement (.ldBaImm mmnn) := rfl
theorem CodeLength.ldHlImm (mmnn : Word) : CodeLength.Statement (.ldHlImm mmnn) := rfl
theorem CodeLength.ldIxImm (mmnn : Word) : CodeLength.Statement (.ldIxImm mmnn) := rfl
theorem CodeLength.ldIyImm (mmnn : Word) : CodeLength.Statement (.ldIyImm mmnn) := rfl
theorem CodeLength.exBaHl : CodeLength.Statement .exBaHl := rfl
theorem CodeLength.exBaIx : CodeLength.Statement .exBaIx := rfl
theorem CodeLength.exBaIy : CodeLength.Statement .exBaIy := rfl
theorem CodeLength.exBaSp : CodeLength.Statement .exBaSp := rfl
theorem CodeLength.exAB : CodeLength.Statement .exAB := rfl
theorem CodeLength.exAMHl : CodeLength.Statement .exAMHl := rfl
theorem CodeLength.subBaImm (mmnn : Word) : CodeLength.Statement (.subBaImm mmnn) := rfl
theorem CodeLength.subHlImm (mmnn : Word) : CodeLength.Statement (.subHlImm mmnn) := rfl
theorem CodeLength.subIxImm (mmnn : Word) : CodeLength.Statement (.subIxImm mmnn) := rfl
theorem CodeLength.subIyImm (mmnn : Word) : CodeLength.Statement (.subIyImm mmnn) := rfl
theorem CodeLength.cpBaImm (mmnn : Word) : CodeLength.Statement (.cpBaImm mmnn) := rfl
theorem CodeLength.cpHlImm (mmnn : Word) : CodeLength.Statement (.cpHlImm mmnn) := rfl
theorem CodeLength.cpIxImm (mmnn : Word) : CodeLength.Statement (.cpIxImm mmnn) := rfl
theorem CodeLength.cpIyImm (mmnn : Word) : CodeLength.Statement (.cpIyImm mmnn) := rfl
theorem CodeLength.andMBrImm (ll : Byte) (nn : Byte) : CodeLength.Statement (.andMBrImm ll nn) := rfl
theorem CodeLength.orMBrImm (ll : Byte) (nn : Byte) : CodeLength.Statement (.orMBrImm ll nn) := rfl
theorem CodeLength.xorMBrImm (ll : Byte) (nn : Byte) : CodeLength.Statement (.xorMBrImm ll nn) := rfl
theorem CodeLength.cpMBrImm (ll : Byte) (nn : Byte) : CodeLength.Statement (.cpMBrImm ll nn) := rfl
theorem CodeLength.bitMBrImm (ll : Byte) (nn : Byte) : CodeLength.Statement (.bitMBrImm ll nn) := rfl
theorem CodeLength.ldMBrImm (ll : Byte) (nn : Byte) : CodeLength.Statement (.ldMBrImm ll nn) := rfl
theorem CodeLength.pack : CodeLength.Statement .pack := rfl
theorem CodeLength.upck : CodeLength.Statement .upck := rfl
theorem CodeLength.carsC (rr : Byte) : CodeLength.Statement (.carsC rr) := rfl
theorem CodeLength.carsNc (rr : Byte) : CodeLength.Statement (.carsNc rr) := rfl
theorem CodeLength.carsZ (rr : Byte) : CodeLength.Statement (.carsZ rr) := rfl
theorem CodeLength.carsNz (rr : Byte) : CodeLength.Statement (.carsNz rr) := rfl
theorem CodeLength.jrsC (rr : Byte) : CodeLength.Statement (.jrsC rr) := rfl
theorem CodeLength.jrsNc (rr : Byte) : CodeLength.Statement (.jrsNc rr) := rfl
theorem CodeLength.jrsZ (rr : Byte) : CodeLength.Statement (.jrsZ rr) := rfl
theorem CodeLength.jrsNz (rr : Byte) : CodeLength.Statement (.jrsNz rr) := rfl
theorem CodeLength.carlC (qqrr : Word) : CodeLength.Statement (.carlC qqrr) := rfl
theorem CodeLength.carlNc (qqrr : Word) : CodeLength.Statement (.carlNc qqrr) := rfl
theorem CodeLength.carlZ (qqrr : Word) : CodeLength.Statement (.carlZ qqrr) := rfl
theorem CodeLength.carlNz (qqrr : Word) : CodeLength.Statement (.carlNz qqrr) := rfl
theorem CodeLength.jrlC (qqrr : Word) : CodeLength.Statement (.jrlC qqrr) := rfl
theorem CodeLength.jrlNc (qqrr : Word) : CodeLength.Statement (.jrlNc qqrr) := rfl
theorem CodeLength.jrlZ (qqrr : Word) : CodeLength.Statement (.jrlZ qqrr) := rfl
theorem CodeLength.jrlNz (qqrr : Word) : CodeLength.Statement (.jrlNz qqrr) := rfl
theorem CodeLength.cars (rr : Byte) : CodeLength.Statement (.cars rr) := rfl
theorem CodeLength.jrs (rr : Byte) : CodeLength.Statement (.jrs rr) := rfl
theorem CodeLength.carl (qqrr : Word) : CodeLength.Statement (.carl qqrr) := rfl
theorem CodeLength.jrl (qqrr : Word) : CodeLength.Statement (.jrl qqrr) := rfl
theorem CodeLength.jpHl : CodeLength.Statement .jpHl := rfl
theorem CodeLength.djrNz (rr : Byte) : CodeLength.Statement (.djrNz rr) := rfl
theorem CodeLength.swapA : CodeLength.Statement .swapA := rfl
theorem CodeLength.swapMHl : CodeLength.Statement .swapMHl := rfl
theorem CodeLength.ret : CodeLength.Statement .ret := rfl
theorem CodeLength.rete : CodeLength.Statement .rete := rfl
theorem CodeLength.rets : CodeLength.Statement .rets := rfl
theorem CodeLength.callMAbs (hhll : Word) : CodeLength.Statement (.callMAbs hhll) := rfl
theorem CodeLength.intVec (kk : Byte) : CodeLength.Statement (.intVec kk) := rfl
theorem CodeLength.jpVec (kk : Byte) : CodeLength.Statement (.jpVec kk) := rfl
theorem CodeLength.nop : CodeLength.Statement .nop := rfl
theorem CodeLength.addAMIxDd (dd : Byte) : CodeLength.Statement (.addAMIxDd dd) := rfl
theorem CodeLength.addAMIyDd (dd : Byte) : CodeLength.Statement (.addAMIyDd dd) := rfl
theorem CodeLength.addAMIxL : CodeLength.Statement .addAMIxL := rfl
theorem CodeLength.addAMIyL : CodeLength.Statement .addAMIyL := rfl
theorem CodeLength.addMHlA : CodeLength.Statement .addMHlA := rfl
theorem CodeLength.addMHlImm (nn : Byte) : CodeLength.Statement (.addMHlImm nn) := rfl
theorem CodeLength.addMHlMIx : CodeLength.Statement .addMHlMIx := rfl
theorem CodeLength.addMHlMIy : CodeLength.Statement .addMHlMIy := rfl
theorem CodeLength.adcAMIxDd (dd : Byte) : CodeLength.Statement (.adcAMIxDd dd) := rfl
theorem CodeLength.adcAMIyDd (dd : Byte) : CodeLength.Statement (.adcAMIyDd dd) := rfl
theorem CodeLength.adcAMIxL : CodeLength.Statement .adcAMIxL := rfl
theorem CodeLength.adcAMIyL : CodeLength.Statement .adcAMIyL := rfl
theorem CodeLength.adcMHlA : CodeLength.Statement .adcMHlA := rfl
theorem CodeLength.adcMHlImm (nn : Byte) : CodeLength.Statement (.adcMHlImm nn) := rfl
theorem CodeLength.adcMHlMIx : CodeLength.Statement .adcMHlMIx := rfl
theorem CodeLength.adcMHlMIy : CodeLength.Statement .adcMHlMIy := rfl
theorem CodeLength.subAMIxDd (dd : Byte) : CodeLength.Statement (.subAMIxDd dd) := rfl
theorem CodeLength.subAMIyDd (dd : Byte) : CodeLength.Statement (.subAMIyDd dd) := rfl
theorem CodeLength.subAMIxL : CodeLength.Statement .subAMIxL := rfl
theorem CodeLength.subAMIyL : CodeLength.Statement .subAMIyL := rfl
theorem CodeLength.subMHlA : CodeLength.Statement .subMHlA := rfl
theorem CodeLength.subMHlImm (nn : Byte) : CodeLength.Statement (.subMHlImm nn) := rfl
theorem CodeLength.subMHlMIx : CodeLength.Statement .subMHlMIx := rfl
theorem CodeLength.subMHlMIy : CodeLength.Statement .subMHlMIy := rfl
theorem CodeLength.sbcAMIxDd (dd : Byte) : CodeLength.Statement (.sbcAMIxDd dd) := rfl
theorem CodeLength.sbcAMIyDd (dd : Byte) : CodeLength.Statement (.sbcAMIyDd dd) := rfl
theorem CodeLength.sbcAMIxL : CodeLength.Statement .sbcAMIxL := rfl
theorem CodeLength.sbcAMIyL : CodeLength.Statement .sbcAMIyL := rfl
theorem CodeLength.sbcMHlA : CodeLength.Statement .sbcMHlA := rfl
theorem CodeLength.sbcMHlImm (nn : Byte) : CodeLength.Statement (.sbcMHlImm nn) := rfl
theorem CodeLength.sbcMHlMIx : CodeLength.Statement .sbcMHlMIx := rfl
theorem CodeLength.sbcMHlMIy : CodeLength.Statement .sbcMHlMIy := rfl
theorem CodeLength.andAMIxDd (dd : Byte) : CodeLength.Statement (.andAMIxDd dd) := rfl
theorem CodeLength.andAMIyDd (dd : Byte) : CodeLength.Statement (.andAMIyDd dd) := rfl
theorem CodeLength.andAMIxL : CodeLength.Statement .andAMIxL := rfl
theorem CodeLength.andAMIyL : CodeLength.Statement .andAMIyL := rfl
theorem CodeLength.andMHlA : CodeLength.Statement .andMHlA := rfl
theorem CodeLength.andMHlImm (nn : Byte) : CodeLength.Statement (.andMHlImm nn) := rfl
theorem CodeLength.andMHlMIx : CodeLength.Statement .andMHlMIx := rfl
theorem CodeLength.andMHlMIy : CodeLength.Statement .andMHlMIy := rfl
theorem CodeLength.orAMIxDd (dd : Byte) : CodeLength.Statement (.orAMIxDd dd) := rfl
theorem CodeLength.orAMIyDd (dd : Byte) : CodeLength.Statement (.orAMIyDd dd) := rfl
theorem CodeLength.orAMIxL : CodeLength.Statement .orAMIxL := rfl
theorem CodeLength.orAMIyL : CodeLength.Statement .orAMIyL := rfl
theorem CodeLength.orMHlA : CodeLength.Statement .orMHlA := rfl
theorem CodeLength.orMHlImm (nn : Byte) : CodeLength.Statement (.orMHlImm nn) := rfl
theorem CodeLength.orMHlMIx : CodeLength.Statement .orMHlMIx := rfl
theorem CodeLength.orMHlMIy : CodeLength.Statement .orMHlMIy := rfl
theorem CodeLength.cpAMIxDd (dd : Byte) : CodeLength.Statement (.cpAMIxDd dd) := rfl
theorem CodeLength.cpAMIyDd (dd : Byte) : CodeLength.Statement (.cpAMIyDd dd) := rfl
theorem CodeLength.cpAMIxL : CodeLength.Statement .cpAMIxL := rfl
theorem CodeLength.cpAMIyL : CodeLength.Statement .cpAMIyL := rfl
theorem CodeLength.cpMHlA : CodeLength.Statement .cpMHlA := rfl
theorem CodeLength.cpMHlImm (nn : Byte) : CodeLength.Statement (.cpMHlImm nn) := rfl
theorem CodeLength.cpMHlMIx : CodeLength.Statement .cpMHlMIx := rfl
theorem CodeLength.cpMHlMIy : CodeLength.Statement .cpMHlMIy := rfl
theorem CodeLength.xorAMIxDd (dd : Byte) : CodeLength.Statement (.xorAMIxDd dd) := rfl
theorem CodeLength.xorAMIyDd (dd : Byte) : CodeLength.Statement (.xorAMIyDd dd) := rfl
theorem CodeLength.xorAMIxL : CodeLength.Statement .xorAMIxL := rfl
theorem CodeLength.xorAMIyL : CodeLength.Statement .xorAMIyL := rfl
theorem CodeLength.xorMHlA : CodeLength.Statement .xorMHlA := rfl
theorem CodeLength.xorMHlImm (nn : Byte) : CodeLength.Statement (.xorMHlImm nn) := rfl
theorem CodeLength.xorMHlMIx : CodeLength.Statement .xorMHlMIx := rfl
theorem CodeLength.xorMHlMIy : CodeLength.Statement .xorMHlMIy := rfl
theorem CodeLength.ldAMIxDd (dd : Byte) : CodeLength.Statement (.ldAMIxDd dd) := rfl
theorem CodeLength.ldAMIyDd (dd : Byte) : CodeLength.Statement (.ldAMIyDd dd) := rfl
theorem CodeLength.ldAMIxL : CodeLength.Statement .ldAMIxL := rfl
theorem CodeLength.ldAMIyL : CodeLength.Statement .ldAMIyL := rfl
theorem CodeLength.ldMIxDdA (dd : Byte) : CodeLength.Statement (.ldMIxDdA dd) := rfl
theorem CodeLength.ldMIyDdA (dd : Byte) : CodeLength.Statement (.ldMIyDdA dd) := rfl
theorem CodeLength.ldMIxLA : CodeLength.Statement .ldMIxLA := rfl
theorem CodeLength.ldMIyLA : CodeLength.Statement .ldMIyLA := rfl
theorem CodeLength.ldBMIxDd (dd : Byte) : CodeLength.Statement (.ldBMIxDd dd) := rfl
theorem CodeLength.ldBMIyDd (dd : Byte) : CodeLength.Statement (.ldBMIyDd dd) := rfl
theorem CodeLength.ldBMIxL : CodeLength.Statement .ldBMIxL := rfl
theorem CodeLength.ldBMIyL : CodeLength.Statement .ldBMIyL := rfl
theorem CodeLength.ldMIxDdB (dd : Byte) : CodeLength.Statement (.ldMIxDdB dd) := rfl
theorem CodeLength.ldMIyDdB (dd : Byte) : CodeLength.Statement (.ldMIyDdB dd) := rfl
theorem CodeLength.ldMIxLB : CodeLength.Statement .ldMIxLB := rfl
theorem CodeLength.ldMIyLB : CodeLength.Statement .ldMIyLB := rfl
theorem CodeLength.ldLMIxDd (dd : Byte) : CodeLength.Statement (.ldLMIxDd dd) := rfl
theorem CodeLength.ldLMIyDd (dd : Byte) : CodeLength.Statement (.ldLMIyDd dd) := rfl
theorem CodeLength.ldLMIxL : CodeLength.Statement .ldLMIxL := rfl
theorem CodeLength.ldLMIyL : CodeLength.Statement .ldLMIyL := rfl
theorem CodeLength.ldMIxDdL (dd : Byte) : CodeLength.Statement (.ldMIxDdL dd) := rfl
theorem CodeLength.ldMIyDdL (dd : Byte) : CodeLength.Statement (.ldMIyDdL dd) := rfl
theorem CodeLength.ldMIxLL : CodeLength.Statement .ldMIxLL := rfl
theorem CodeLength.ldMIyLL : CodeLength.Statement .ldMIyLL := rfl
theorem CodeLength.ldHMIxDd (dd : Byte) : CodeLength.Statement (.ldHMIxDd dd) := rfl
theorem CodeLength.ldHMIyDd (dd : Byte) : CodeLength.Statement (.ldHMIyDd dd) := rfl
theorem CodeLength.ldHMIxL : CodeLength.Statement .ldHMIxL := rfl
theorem CodeLength.ldHMIyL : CodeLength.Statement .ldHMIyL := rfl
theorem CodeLength.ldMIxDdH (dd : Byte) : CodeLength.Statement (.ldMIxDdH dd) := rfl
theorem CodeLength.ldMIyDdH (dd : Byte) : CodeLength.Statement (.ldMIyDdH dd) := rfl
theorem CodeLength.ldMIxLH : CodeLength.Statement .ldMIxLH := rfl
theorem CodeLength.ldMIyLH : CodeLength.Statement .ldMIyLH := rfl
theorem CodeLength.ldMHlMIxDd (dd : Byte) : CodeLength.Statement (.ldMHlMIxDd dd) := rfl
theorem CodeLength.ldMHlMIyDd (dd : Byte) : CodeLength.Statement (.ldMHlMIyDd dd) := rfl
theorem CodeLength.ldMHlMIxL : CodeLength.Statement .ldMHlMIxL := rfl
theorem CodeLength.ldMHlMIyL : CodeLength.Statement .ldMHlMIyL := rfl
theorem CodeLength.ldMIxMIxDd (dd : Byte) : CodeLength.Statement (.ldMIxMIxDd dd) := rfl
theorem CodeLength.ldMIxMIyDd (dd : Byte) : CodeLength.Statement (.ldMIxMIyDd dd) := rfl
theorem CodeLength.ldMIxMIxL : CodeLength.Statement .ldMIxMIxL := rfl
theorem CodeLength.ldMIxMIyL : CodeLength.Statement .ldMIxMIyL := rfl
theorem CodeLength.ldMIyMIxDd (dd : Byte) : CodeLength.Statement (.ldMIyMIxDd dd) := rfl
theorem CodeLength.ldMIyMIyDd (dd : Byte) : CodeLength.Statement (.ldMIyMIyDd dd) := rfl
theorem CodeLength.ldMIyMIxL : CodeLength.Statement .ldMIyMIxL := rfl
theorem CodeLength.ldMIyMIyL : CodeLength.Statement .ldMIyMIyL := rfl
theorem CodeLength.slaA : CodeLength.Statement .slaA := rfl
theorem CodeLength.slaB : CodeLength.Statement .slaB := rfl
theorem CodeLength.slaMBr (ll : Byte) : CodeLength.Statement (.slaMBr ll) := rfl
theorem CodeLength.slaMHl : CodeLength.Statement .slaMHl := rfl
theorem CodeLength.sllA : CodeLength.Statement .sllA := rfl
theorem CodeLength.sllB : CodeLength.Statement .sllB := rfl
theorem CodeLength.sllMBr (ll : Byte) : CodeLength.Statement (.sllMBr ll) := rfl
theorem CodeLength.sllMHl : CodeLength.Statement .sllMHl := rfl
theorem CodeLength.sraA : CodeLength.Statement .sraA := rfl
theorem CodeLength.sraB : CodeLength.Statement .sraB := rfl
theorem CodeLength.sraMBr (ll : Byte) : CodeLength.Statement (.sraMBr ll) := rfl
theorem CodeLength.sraMHl : CodeLength.Statement .sraMHl := rfl
theorem CodeLength.srlA : CodeLength.Statement .srlA := rfl
theorem CodeLength.srlB : CodeLength.Statement .srlB := rfl
theorem CodeLength.srlMBr (ll : Byte) : CodeLength.Statement (.srlMBr ll) := rfl
theorem CodeLength.srlMHl : CodeLength.Statement .srlMHl := rfl
theorem CodeLength.rlA : CodeLength.Statement .rlA := rfl
theorem CodeLength.rlB : CodeLength.Statement .rlB := rfl
theorem CodeLength.rlMBr (ll : Byte) : CodeLength.Statement (.rlMBr ll) := rfl
theorem CodeLength.rlMHl : CodeLength.Statement .rlMHl := rfl
theorem CodeLength.rlcA : CodeLength.Statement .rlcA := rfl
theorem CodeLength.rlcB : CodeLength.Statement .rlcB := rfl
theorem CodeLength.rlcMBr (ll : Byte) : CodeLength.Statement (.rlcMBr ll) := rfl
theorem CodeLength.rlcMHl : CodeLength.Statement .rlcMHl := rfl
theorem CodeLength.rrA : CodeLength.Statement .rrA := rfl
theorem CodeLength.rrB : CodeLength.Statement .rrB := rfl
theorem CodeLength.rrMBr (ll : Byte) : CodeLength.Statement (.rrMBr ll) := rfl
theorem CodeLength.rrMHl : CodeLength.Statement .rrMHl := rfl
theorem CodeLength.rrcA : CodeLength.Statement .rrcA := rfl
theorem CodeLength.rrcB : CodeLength.Statement .rrcB := rfl
theorem CodeLength.rrcMBr (ll : Byte) : CodeLength.Statement (.rrcMBr ll) := rfl
theorem CodeLength.rrcMHl : CodeLength.Statement .rrcMHl := rfl
theorem CodeLength.cplA : CodeLength.Statement .cplA := rfl
theorem CodeLength.cplB : CodeLength.Statement .cplB := rfl
theorem CodeLength.cplMBr (ll : Byte) : CodeLength.Statement (.cplMBr ll) := rfl
theorem CodeLength.cplMHl : CodeLength.Statement .cplMHl := rfl
theorem CodeLength.negA : CodeLength.Statement .negA := rfl
theorem CodeLength.negB : CodeLength.Statement .negB := rfl
theorem CodeLength.negMBr (ll : Byte) : CodeLength.Statement (.negMBr ll) := rfl
theorem CodeLength.negMHl : CodeLength.Statement .negMHl := rfl
theorem CodeLength.sep : CodeLength.Statement .sep := rfl
theorem CodeLength.halt : CodeLength.Statement .halt := rfl
theorem CodeLength.slp : CodeLength.Statement .slp := rfl
theorem CodeLength.andBImm (nn : Byte) : CodeLength.Statement (.andBImm nn) := rfl
theorem CodeLength.andLImm (nn : Byte) : CodeLength.Statement (.andLImm nn) := rfl
theorem CodeLength.andHImm (nn : Byte) : CodeLength.Statement (.andHImm nn) := rfl
theorem CodeLength.orBImm (nn : Byte) : CodeLength.Statement (.orBImm nn) := rfl
theorem CodeLength.orLImm (nn : Byte) : CodeLength.Statement (.orLImm nn) := rfl
theorem CodeLength.orHImm (nn : Byte) : CodeLength.Statement (.orHImm nn) := rfl
theorem CodeLength.xorBImm (nn : Byte) : CodeLength.Statement (.xorBImm nn) := rfl
theorem CodeLength.xorLImm (nn : Byte) : CodeLength.Statement (.xorLImm nn) := rfl
theorem CodeLength.xorHImm (nn : Byte) : CodeLength.Statement (.xorHImm nn) := rfl
theorem CodeLength.cpBImm (nn : Byte) : CodeLength.Statement (.cpBImm nn) := rfl
theorem CodeLength.cpLImm (nn : Byte) : CodeLength.Statement (.cpLImm nn) := rfl
theorem CodeLength.cpHImm (nn : Byte) : CodeLength.Statement (.cpHImm nn) := rfl
theorem CodeLength.cpBrImm (hh : Byte) : CodeLength.Statement (.cpBrImm hh) := rfl
theorem CodeLength.ldABr : CodeLength.Statement .ldABr := rfl
theorem CodeLength.ldASc : CodeLength.Statement .ldASc := rfl
theorem CodeLength.ldBrA : CodeLength.Statement .ldBrA := rfl
theorem CodeLength.ldScA : CodeLength.Statement .ldScA := rfl
theorem CodeLength.ldNbImm (bb : Byte) : CodeLength.Statement (.ldNbImm bb) := rfl
theorem CodeLength.ldEpImm (pp : Byte) : CodeLength.Statement (.ldEpImm pp) := rfl
theorem CodeLength.ldXpImm (pp : Byte) : CodeLength.Statement (.ldXpImm pp) := rfl
theorem CodeLength.ldYpImm (pp : Byte) : CodeLength.Statement (.ldYpImm pp) := rfl
theorem CodeLength.ldANb : CodeLength.Statement .ldANb := rfl
theorem CodeLength.ldAEp : CodeLength.Statement .ldAEp := rfl
theorem CodeLength.ldAXp : CodeLength.Statement .ldAXp := rfl
theorem CodeLength.ldAYp : CodeLength.Statement .ldAYp := rfl
theorem CodeLength.ldNbA : CodeLength.Statement .ldNbA := rfl
theorem CodeLength.ldEpA : CodeLength.Statement .ldEpA := rfl
theorem CodeLength.ldXpA : CodeLength.Statement .ldXpA := rfl
theorem CodeLength.ldYpA : CodeLength.Statement .ldYpA := rfl
theorem CodeLength.ldAMAbs (hhll : Word) : CodeLength.Statement (.ldAMAbs hhll) := rfl
theorem CodeLength.ldBMAbs (hhll : Word) : CodeLength.Statement (.ldBMAbs hhll) := rfl
theorem CodeLength.ldLMAbs (hhll : Word) : CodeLength.Statement (.ldLMAbs hhll) := rfl
theorem CodeLength.ldHMAbs (hhll : Word) : CodeLength.Statement (.ldHMAbs hhll) := rfl
theorem CodeLength.ldMAbsA (hhll : Word) : CodeLength.Statement (.ldMAbsA hhll) := rfl
theorem CodeLength.ldMAbsB (hhll : Word) : CodeLength.Statement (.ldMAbsB hhll) := rfl
theorem CodeLength.ldMAbsL (hhll : Word) : CodeLength.Statement (.ldMAbsL hhll) := rfl
theorem CodeLength.ldMAbsH (hhll : Word) : CodeLength.Statement (.ldMAbsH hhll) := rfl
theorem CodeLength.mlt : CodeLength.Statement .mlt := rfl
theorem CodeLength.div : CodeLength.Statement .div := rfl
theorem CodeLength.jrsLt (rr : Byte) : CodeLength.Statement (.jrsLt rr) := rfl
theorem CodeLength.jrsLe (rr : Byte) : CodeLength.Statement (.jrsLe rr) := rfl
theorem CodeLength.jrsGt (rr : Byte) : CodeLength.Statement (.jrsGt rr) := rfl
theorem CodeLength.jrsGe (rr : Byte) : CodeLength.Statement (.jrsGe rr) := rfl
theorem CodeLength.jrsV (rr : Byte) : CodeLength.Statement (.jrsV rr) := rfl
theorem CodeLength.jrsNv (rr : Byte) : CodeLength.Statement (.jrsNv rr) := rfl
theorem CodeLength.jrsP (rr : Byte) : CodeLength.Statement (.jrsP rr) := rfl
theorem CodeLength.jrsM (rr : Byte) : CodeLength.Statement (.jrsM rr) := rfl
theorem CodeLength.jrsF0 (rr : Byte) : CodeLength.Statement (.jrsF0 rr) := rfl
theorem CodeLength.jrsF1 (rr : Byte) : CodeLength.Statement (.jrsF1 rr) := rfl
theorem CodeLength.jrsF2 (rr : Byte) : CodeLength.Statement (.jrsF2 rr) := rfl
theorem CodeLength.jrsF3 (rr : Byte) : CodeLength.Statement (.jrsF3 rr) := rfl
theorem CodeLength.jrsNf0 (rr : Byte) : CodeLength.Statement (.jrsNf0 rr) := rfl
theorem CodeLength.jrsNf1 (rr : Byte) : CodeLength.Statement (.jrsNf1 rr) := rfl
theorem CodeLength.jrsNf2 (rr : Byte) : CodeLength.Statement (.jrsNf2 rr) := rfl
theorem CodeLength.jrsNf3 (rr : Byte) : CodeLength.Statement (.jrsNf3 rr) := rfl
theorem CodeLength.carsLt (rr : Byte) : CodeLength.Statement (.carsLt rr) := rfl
theorem CodeLength.carsLe (rr : Byte) : CodeLength.Statement (.carsLe rr) := rfl
theorem CodeLength.carsGt (rr : Byte) : CodeLength.Statement (.carsGt rr) := rfl
theorem CodeLength.carsGe (rr : Byte) : CodeLength.Statement (.carsGe rr) := rfl
theorem CodeLength.carsV (rr : Byte) : CodeLength.Statement (.carsV rr) := rfl
theorem CodeLength.carsNv (rr : Byte) : CodeLength.Statement (.carsNv rr) := rfl
theorem CodeLength.carsP (rr : Byte) : CodeLength.Statement (.carsP rr) := rfl
theorem CodeLength.carsM (rr : Byte) : CodeLength.Statement (.carsM rr) := rfl
theorem CodeLength.carsF0 (rr : Byte) : CodeLength.Statement (.carsF0 rr) := rfl
theorem CodeLength.carsF1 (rr : Byte) : CodeLength.Statement (.carsF1 rr) := rfl
theorem CodeLength.carsF2 (rr : Byte) : CodeLength.Statement (.carsF2 rr) := rfl
theorem CodeLength.carsF3 (rr : Byte) : CodeLength.Statement (.carsF3 rr) := rfl
theorem CodeLength.carsNf0 (rr : Byte) : CodeLength.Statement (.carsNf0 rr) := rfl
theorem CodeLength.carsNf1 (rr : Byte) : CodeLength.Statement (.carsNf1 rr) := rfl
theorem CodeLength.carsNf2 (rr : Byte) : CodeLength.Statement (.carsNf2 rr) := rfl
theorem CodeLength.carsNf3 (rr : Byte) : CodeLength.Statement (.carsNf3 rr) := rfl
theorem CodeLength.addBaBa : CodeLength.Statement .addBaBa := rfl
theorem CodeLength.addBaHl : CodeLength.Statement .addBaHl := rfl
theorem CodeLength.addBaIx : CodeLength.Statement .addBaIx := rfl
theorem CodeLength.addBaIy : CodeLength.Statement .addBaIy := rfl
theorem CodeLength.adcBaBa : CodeLength.Statement .adcBaBa := rfl
theorem CodeLength.adcBaHl : CodeLength.Statement .adcBaHl := rfl
theorem CodeLength.adcBaIx : CodeLength.Statement .adcBaIx := rfl
theorem CodeLength.adcBaIy : CodeLength.Statement .adcBaIy := rfl
theorem CodeLength.subBaBa : CodeLength.Statement .subBaBa := rfl
theorem CodeLength.subBaHl : CodeLength.Statement .subBaHl := rfl
theorem CodeLength.subBaIx : CodeLength.Statement .subBaIx := rfl
theorem CodeLength.subBaIy : CodeLength.Statement .subBaIy := rfl
theorem CodeLength.sbcBaBa : CodeLength.Statement .sbcBaBa := rfl
theorem CodeLength.sbcBaHl : CodeLength.Statement .sbcBaHl := rfl
theorem CodeLength.sbcBaIx : CodeLength.Statement .sbcBaIx := rfl
theorem CodeLength.sbcBaIy : CodeLength.Statement .sbcBaIy := rfl
theorem CodeLength.cpBaBa : CodeLength.Statement .cpBaBa := rfl
theorem CodeLength.cpBaHl : CodeLength.Statement .cpBaHl := rfl
theorem CodeLength.cpBaIx : CodeLength.Statement .cpBaIx := rfl
theorem CodeLength.cpBaIy : CodeLength.Statement .cpBaIy := rfl
theorem CodeLength.addHlBa : CodeLength.Statement .addHlBa := rfl
theorem CodeLength.addHlHl : CodeLength.Statement .addHlHl := rfl
theorem CodeLength.addHlIx : CodeLength.Statement .addHlIx := rfl
theorem CodeLength.addHlIy : CodeLength.Statement .addHlIy := rfl
theorem CodeLength.adcHlBa : CodeLength.Statement .adcHlBa := rfl
theorem CodeLength.adcHlHl : CodeLength.Statement .adcHlHl := rfl
theorem CodeLength.adcHlIx : CodeLength.Statement .adcHlIx := rfl
theorem CodeLength.adcHlIy : CodeLength.Statement .adcHlIy := rfl
theorem CodeLength.subHlBa : CodeLength.Statement .subHlBa := rfl
theorem CodeLength.subHlHl : CodeLength.Statement .subHlHl := rfl
theorem CodeLength.subHlIx : CodeLength.Statement .subHlIx := rfl
theorem CodeLength.subHlIy : CodeLength.Statement .subHlIy := rfl
theorem CodeLength.sbcHlBa : CodeLength.Statement .sbcHlBa := rfl
theorem CodeLength.sbcHlHl : CodeLength.Statement .sbcHlHl := rfl
theorem CodeLength.sbcHlIx : CodeLength.Statement .sbcHlIx := rfl
theorem CodeLength.sbcHlIy : CodeLength.Statement .sbcHlIy := rfl
theorem CodeLength.cpHlBa : CodeLength.Statement .cpHlBa := rfl
theorem CodeLength.cpHlHl : CodeLength.Statement .cpHlHl := rfl
theorem CodeLength.cpHlIx : CodeLength.Statement .cpHlIx := rfl
theorem CodeLength.cpHlIy : CodeLength.Statement .cpHlIy := rfl
theorem CodeLength.addIxBa : CodeLength.Statement .addIxBa := rfl
theorem CodeLength.addIxHl : CodeLength.Statement .addIxHl := rfl
theorem CodeLength.addIyBa : CodeLength.Statement .addIyBa := rfl
theorem CodeLength.addIyHl : CodeLength.Statement .addIyHl := rfl
theorem CodeLength.addSpBa : CodeLength.Statement .addSpBa := rfl
theorem CodeLength.addSpHl : CodeLength.Statement .addSpHl := rfl
theorem CodeLength.subIxBa : CodeLength.Statement .subIxBa := rfl
theorem CodeLength.subIxHl : CodeLength.Statement .subIxHl := rfl
theorem CodeLength.subIyBa : CodeLength.Statement .subIyBa := rfl
theorem CodeLength.subIyHl : CodeLength.Statement .subIyHl := rfl
theorem CodeLength.subSpBa : CodeLength.Statement .subSpBa := rfl
theorem CodeLength.subSpHl : CodeLength.Statement .subSpHl := rfl
theorem CodeLength.cpSpBa : CodeLength.Statement .cpSpBa := rfl
theorem CodeLength.cpSpHl : CodeLength.Statement .cpSpHl := rfl
theorem CodeLength.adcBaImm (mmnn : Word) : CodeLength.Statement (.adcBaImm mmnn) := rfl
theorem CodeLength.adcHlImm (mmnn : Word) : CodeLength.Statement (.adcHlImm mmnn) := rfl
theorem CodeLength.sbcBaImm (mmnn : Word) : CodeLength.Statement (.sbcBaImm mmnn) := rfl
theorem CodeLength.sbcHlImm (mmnn : Word) : CodeLength.Statement (.sbcHlImm mmnn) := rfl
theorem CodeLength.addSpImm (mmnn : Word) : CodeLength.Statement (.addSpImm mmnn) := rfl
theorem CodeLength.subSpImm (mmnn : Word) : CodeLength.Statement (.subSpImm mmnn) := rfl
theorem CodeLength.cpSpImm (mmnn : Word) : CodeLength.Statement (.cpSpImm mmnn) := rfl
theorem CodeLength.ldSpImm (mmnn : Word) : CodeLength.Statement (.ldSpImm mmnn) := rfl
theorem CodeLength.ldBaMSpDd (dd : Byte) : CodeLength.Statement (.ldBaMSpDd dd) := rfl
theorem CodeLength.ldHlMSpDd (dd : Byte) : CodeLength.Statement (.ldHlMSpDd dd) := rfl
theorem CodeLength.ldIxMSpDd (dd : Byte) : CodeLength.Statement (.ldIxMSpDd dd) := rfl
theorem CodeLength.ldIyMSpDd (dd : Byte) : CodeLength.Statement (.ldIyMSpDd dd) := rfl
theorem CodeLength.ldMSpDdBa (dd : Byte) : CodeLength.Statement (.ldMSpDdBa dd) := rfl
theorem CodeLength.ldMSpDdHl (dd : Byte) : CodeLength.Statement (.ldMSpDdHl dd) := rfl
theorem CodeLength.ldMSpDdIx (dd : Byte) : CodeLength.Statement (.ldMSpDdIx dd) := rfl
theorem CodeLength.ldMSpDdIy (dd : Byte) : CodeLength.Statement (.ldMSpDdIy dd) := rfl
theorem CodeLength.ldSpMAbs (hhll : Word) : CodeLength.Statement (.ldSpMAbs hhll) := rfl
theorem CodeLength.ldMAbsSp (hhll : Word) : CodeLength.Statement (.ldMAbsSp hhll) := rfl
theorem CodeLength.pushA : CodeLength.Statement .pushA := rfl
theorem CodeLength.pushB : CodeLength.Statement .pushB := rfl
theorem CodeLength.pushL : CodeLength.Statement .pushL := rfl
theorem CodeLength.pushH : CodeLength.Statement .pushH := rfl
theorem CodeLength.popA : CodeLength.Statement .popA := rfl
theorem CodeLength.popB : CodeLength.Statement .popB := rfl
theorem CodeLength.popL : CodeLength.Statement .popL := rfl
theorem CodeLength.popH : CodeLength.Statement .popH := rfl
theorem CodeLength.pushAll : CodeLength.Statement .pushAll := rfl
theorem CodeLength.pushAle : CodeLength.Statement .pushAle := rfl
theorem CodeLength.popAll : CodeLength.Statement .popAll := rfl
theorem CodeLength.popAle : CodeLength.Statement .popAle := rfl
theorem CodeLength.ldBaMHl : CodeLength.Statement .ldBaMHl := rfl
theorem CodeLength.ldHlMHl : CodeLength.Statement .ldHlMHl := rfl
theorem CodeLength.ldIxMHl : CodeLength.Statement .ldIxMHl := rfl
theorem CodeLength.ldIyMHl : CodeLength.Statement .ldIyMHl := rfl
theorem CodeLength.ldMHlBa : CodeLength.Statement .ldMHlBa := rfl
theorem CodeLength.ldMHlHl : CodeLength.Statement .ldMHlHl := rfl
theorem CodeLength.ldMHlIx : CodeLength.Statement .ldMHlIx := rfl
theorem CodeLength.ldMHlIy : CodeLength.Statement .ldMHlIy := rfl
theorem CodeLength.ldBaMIx : CodeLength.Statement .ldBaMIx := rfl
theorem CodeLength.ldHlMIx : CodeLength.Statement .ldHlMIx := rfl
theorem CodeLength.ldIxMIx : CodeLength.Statement .ldIxMIx := rfl
theorem CodeLength.ldIyMIx : CodeLength.Statement .ldIyMIx := rfl
theorem CodeLength.ldMIxBa : CodeLength.Statement .ldMIxBa := rfl
theorem CodeLength.ldMIxHl : CodeLength.Statement .ldMIxHl := rfl
theorem CodeLength.ldMIxIx : CodeLength.Statement .ldMIxIx := rfl
theorem CodeLength.ldMIxIy : CodeLength.Statement .ldMIxIy := rfl
theorem CodeLength.ldBaMIy : CodeLength.Statement .ldBaMIy := rfl
theorem CodeLength.ldHlMIy : CodeLength.Statement .ldHlMIy := rfl
theorem CodeLength.ldIxMIy : CodeLength.Statement .ldIxMIy := rfl
theorem CodeLength.ldIyMIy : CodeLength.Statement .ldIyMIy := rfl
theorem CodeLength.ldMIyBa : CodeLength.Statement .ldMIyBa := rfl
theorem CodeLength.ldMIyHl : CodeLength.Statement .ldMIyHl := rfl
theorem CodeLength.ldMIyIx : CodeLength.Statement .ldMIyIx := rfl
theorem CodeLength.ldMIyIy : CodeLength.Statement .ldMIyIy := rfl
theorem CodeLength.ldBaBa : CodeLength.Statement .ldBaBa := rfl
theorem CodeLength.ldBaHl : CodeLength.Statement .ldBaHl := rfl
theorem CodeLength.ldBaIx : CodeLength.Statement .ldBaIx := rfl
theorem CodeLength.ldBaIy : CodeLength.Statement .ldBaIy := rfl
theorem CodeLength.ldHlBa : CodeLength.Statement .ldHlBa := rfl
theorem CodeLength.ldHlHl : CodeLength.Statement .ldHlHl := rfl
theorem CodeLength.ldHlIx : CodeLength.Statement .ldHlIx := rfl
theorem CodeLength.ldHlIy : CodeLength.Statement .ldHlIy := rfl
theorem CodeLength.ldIxBa : CodeLength.Statement .ldIxBa := rfl
theorem CodeLength.ldIxHl : CodeLength.Statement .ldIxHl := rfl
theorem CodeLength.ldIxIx : CodeLength.Statement .ldIxIx := rfl
theorem CodeLength.ldIxIy : CodeLength.Statement .ldIxIy := rfl
theorem CodeLength.ldIyBa : CodeLength.Statement .ldIyBa := rfl
theorem CodeLength.ldIyHl : CodeLength.Statement .ldIyHl := rfl
theorem CodeLength.ldIyIx : CodeLength.Statement .ldIyIx := rfl
theorem CodeLength.ldIyIy : CodeLength.Statement .ldIyIy := rfl
theorem CodeLength.ldSpBa : CodeLength.Statement .ldSpBa := rfl
theorem CodeLength.ldSpHl : CodeLength.Statement .ldSpHl := rfl
theorem CodeLength.ldSpIx : CodeLength.Statement .ldSpIx := rfl
theorem CodeLength.ldSpIy : CodeLength.Statement .ldSpIy := rfl
theorem CodeLength.ldHlSp : CodeLength.Statement .ldHlSp := rfl
theorem CodeLength.ldHlPc : CodeLength.Statement .ldHlPc := rfl
theorem CodeLength.ldBaSp : CodeLength.Statement .ldBaSp := rfl
theorem CodeLength.ldBaPc : CodeLength.Statement .ldBaPc := rfl
theorem CodeLength.ldIxSp : CodeLength.Statement .ldIxSp := rfl
theorem CodeLength.ldIySp : CodeLength.Statement .ldIySp := rfl

end Sys2Proof.Laws
end

