-- ==== Sys2Proof/Tests/Slice0.lean ====
section
/-! SUPPORT. Tests of the model on fixed values: what is well formed on which CPU model, words written out from the op-code maps, one step at a time against the rows and scenarios of the spec's files 95 and 96, and for every statement with hypotheses a state and operands that meet them. -/

namespace Sys2Proof.Tests

open Sys2Proof.Machine Sys2Proof.Rules

/-! Helpers. -/

/-- MODEL3, minimum mode, RAM everywhere, running at 1000H with SP at F000H and every flag 0. -/
def tst : State :=
  { State.reset with status := .run, pc := 0x1000#16, sp := 0xF000#16, sc := 0x00#8, nb := 0x00#8, cb := 0x00#8 }

/-- The same on another CPU model. -/
def onModel (m : CpuModel) (s : State) : State := { s with cfg := { s.cfg with model := m } }

/-- The same in the maximum mode. -/
def maximum (s : State) : State := { s with cfg := { s.cfg with mode := .maximum } }

/-- The same with another memory map: ROM, RAM, write-only memory, a device window, nothing behind them. -/
def mapped : State :=
  { tst with cfg := { resetConfig with memoryMap :=
    [{ base := 0x0000, size := 0x1000, kind := .rom }, { base := 0x1000, size := 0x1000, kind := .ram },
     { base := 0x2000, size := 0x0100, kind := .writeOnly }, { base := 0x2100, size := 0x0100, kind := .io }] } }

/-- The state with bytes of memory given. -/
def given (s : State) (bytes : List (Nat × Byte)) : State :=
  bytes.foldl (fun t x => t.setMem (t.mem.store x.1 x.2)) s

/-- The outcome is a next state of which `p` holds. -/
def nextIs (o : Host.Outcome State Fault Refusal) (p : State → Bool) : Bool :=
  match o with
  | .next t => p t
  | .fault _ => false
  | .refused _ => false

/-- The outcome is a fault of which `p` holds. -/
def faultIs (o : Host.Outcome State Fault Refusal) (p : Fault → Bool) : Bool :=
  match o with
  | .next _ => false
  | .fault f => p f
  | .refused _ => false

/-- The outcome is a next state. -/
theorem ran {o : Host.Outcome State Fault Refusal} (h : nextIs o (fun _ => true) = true) : ∃ t, o = .next t := by
  cases o with
  | next t => exact ⟨t, rfl⟩
  | fault r => exact nomatch h
  | refused r => exact nomatch h

/-- With the memory map of `tst` every address is RAM. -/
theorem isRam {s : State} (h : s.cfg.memoryMap = resetConfig.memoryMap) (a : Addr) : s.kindAt a = .ram := by
  simp only [State.kindAt, h, resetConfig, mapKind, Region.contains]
  have := a.isLt
  simp only [Nat.zero_add, Nat.zero_le, decide_true, Bool.true_and, decide_eq_true_eq]
  rw [if_pos (by omega)]

/-- Every list of addresses is RAM. -/
theorem allRam {s : State} (h : s.cfg.memoryMap = resetConfig.memoryMap) (l : List Addr) : inRam s l :=
  fun a _ => isRam h a

/-- The same for an instruction in a step that SR does not cut. -/
theorem quietly {s : State} {i : Instr} (q : s.bus = []) (h : nextIs (exec i s) (fun _ => true) = true) :
    ∃ t, s.uncut ∧ exec i s = .next t := by
  obtain ⟨t, e⟩ := ran h
  exact ⟨t, uncut_quiet q, e⟩

/-- Nothing comes with a memory access. -/
def quietCycle : BusCycle := { master := [], cut := false, data := none }

/-- SR goes LOW before a memory access. -/
def cutCycle : BusCycle := { quietCycle with cut := true }

/-- The bus master writes a byte before a memory access. -/
def writing (a : Addr) (v : Byte) : BusCycle := { quietCycle with master := [.write a v] }

/-- A device puts a byte on the data bus. -/
def supplying (v : Byte) : BusCycle := { quietCycle with data := some v }

/-- The state whose next step has these break-points. -/
def busy (l : List BusCycle) (s : State) : State := { s with schedule := [{ s.pins with cycles := l }] }

/-! The smoke test of WellFormed: each check refuses an ill-formed instruction. -/

theorem test_mlt_not_on_model0 : ¬WellFormed .model0 .mlt := by unfold WellFormed; decide
theorem test_div_not_on_model2 : ¬WellFormed .model2 .div := by unfold WellFormed; decide
theorem test_mlt_on_model1_and_model3 : WellFormed .model1 .mlt ∧ WellFormed .model3 .mlt := ⟨rfl, rfl⟩
theorem test_ldNb_not_on_model1 : ¬WellFormed .model1 (.ldNbImm 0x05#8) := by unfold WellFormed; decide
theorem test_pushAle_not_on_model0 : ¬WellFormed .model0 .pushAle := by unfold WellFormed; decide
theorem test_popIp_on_model2 : WellFormed .model2 .popIp := rfl
theorem test_mlt_faults_on_model0 : exec .mlt (onModel .model0 tst) = .fault (.noMulDiv (onModel .model0 tst)) := rfl
theorem test_pushAle_faults_on_model1 : exec .pushAle (onModel .model1 tst) = .fault (.noExpansion (onModel .model1 tst)) := rfl

/-! Decoding: the refusals by name (R123), then one or more words of each family, written out from the op-code maps R120 to R122. -/

theorem test_decode_refuses_7C : decode [0x7C#8] = .error (.undefinedFirst 0x7C#8) := rfl
theorem test_decode_refuses_FE : decode [0xFE#8, 0x00#8] = .error (.undefinedFirst 0xFE#8) := rfl
theorem test_decode_refuses_CE64 : decode [0xCE#8, 0x64#8] = .error (.undefinedAfterCE 0x64#8) := rfl
theorem test_decode_refuses_CF10 : decode [0xCF#8, 0x10#8] = .error (.undefinedAfterCF 0x10#8) := rfl
theorem test_decode_refuses_truncated : decode [0xCE#8] = .error .truncated := rfl
theorem test_decode_refuses_empty : decode [] = .error .truncated := rfl

/-! Every assigned op-code of the maps R120 to R122, one theorem for each row of sixteen: the op-code byte, behind it the bytes 34H and 12H, gives the instruction the map names with the operand the format says (R104). -/

/-- The decoder reads `i` from an op-code byte behind `before`, with 34H and 12H behind it. -/
def reads (before : List Byte) (op : Nat × Instr) : Bool :=
  match decode (before ++ [BitVec.ofNat 8 op.1, 0x34#8, 0x12#8]) with
  | .ok (j, _) => decide (j = op.2)
  | .error _ => false

theorem test_map_first_00 : List.all
    [(0x00, .addAA), (0x01, .addAB), (0x02, .addAImm 0x34#8), (0x03, .addAMHl), (0x04, .addAMBr 0x34#8),
     (0x05, .addAMAbs 0x1234#16), (0x06, .addAMIx), (0x07, .addAMIy), (0x08, .adcAA), (0x09, .adcAB),
     (0x0A, .adcAImm 0x34#8), (0x0B, .adcAMHl), (0x0C, .adcAMBr 0x34#8), (0x0D, .adcAMAbs 0x1234#16),
     (0x0E, .adcAMIx), (0x0F, .adcAMIy)]
    (reads []) = true := by decide

theorem test_map_first_10 : List.all
    [(0x10, .subAA), (0x11, .subAB), (0x12, .subAImm 0x34#8), (0x13, .subAMHl), (0x14, .subAMBr 0x34#8),
     (0x15, .subAMAbs 0x1234#16), (0x16, .subAMIx), (0x17, .subAMIy), (0x18, .sbcAA), (0x19, .sbcAB),
     (0x1A, .sbcAImm 0x34#8), (0x1B, .sbcAMHl), (0x1C, .sbcAMBr 0x34#8), (0x1D, .sbcAMAbs 0x1234#16),
     (0x1E, .sbcAMIx), (0x1F, .sbcAMIy)]
    (reads []) = true := by decide

theorem test_map_first_20 : List.all
    [(0x20, .andAA), (0x21, .andAB), (0x22, .andAImm 0x34#8), (0x23, .andAMHl), (0x24, .andAMBr 0x34#8),
     (0x25, .andAMAbs 0x1234#16), (0x26, .andAMIx), (0x27, .andAMIy), (0x28, .orAA), (0x29, .orAB),
     (0x2A, .orAImm 0x34#8), (0x2B, .orAMHl), (0x2C, .orAMBr 0x34#8), (0x2D, .orAMAbs 0x1234#16),
     (0x2E, .orAMIx), (0x2F, .orAMIy)]
    (reads []) = true := by decide

theorem test_map_first_30 : List.all
    [(0x30, .cpAA), (0x31, .cpAB), (0x32, .cpAImm 0x34#8), (0x33, .cpAMHl), (0x34, .cpAMBr 0x34#8),
     (0x35, .cpAMAbs 0x1234#16), (0x36, .cpAMIx), (0x37, .cpAMIy), (0x38, .xorAA), (0x39, .xorAB),
     (0x3A, .xorAImm 0x34#8), (0x3B, .xorAMHl), (0x3C, .xorAMBr 0x34#8), (0x3D, .xorAMAbs 0x1234#16),
     (0x3E, .xorAMIx), (0x3F, .xorAMIy)]
    (reads []) = true := by decide

theorem test_map_first_40 : List.all
    [(0x40, .ldAA), (0x41, .ldAB), (0x42, .ldAL), (0x43, .ldAH), (0x44, .ldAMBr 0x34#8), (0x45, .ldAMHl),
     (0x46, .ldAMIx), (0x47, .ldAMIy), (0x48, .ldBA), (0x49, .ldBB), (0x4A, .ldBL), (0x4B, .ldBH),
     (0x4C, .ldBMBr 0x34#8), (0x4D, .ldBMHl), (0x4E, .ldBMIx), (0x4F, .ldBMIy)]
    (reads []) = true := by decide

theorem test_map_first_50 : List.all
    [(0x50, .ldLA), (0x51, .ldLB), (0x52, .ldLL), (0x53, .ldLH), (0x54, .ldLMBr 0x34#8), (0x55, .ldLMHl),
     (0x56, .ldLMIx), (0x57, .ldLMIy), (0x58, .ldHA), (0x59, .ldHB), (0x5A, .ldHL), (0x5B, .ldHH),
     (0x5C, .ldHMBr 0x34#8), (0x5D, .ldHMHl), (0x5E, .ldHMIx), (0x5F, .ldHMIy)]
    (reads []) = true := by decide

theorem test_map_first_60 : List.all
    [(0x60, .ldMIxA), (0x61, .ldMIxB), (0x62, .ldMIxL), (0x63, .ldMIxH), (0x64, .ldMIxMBr 0x34#8),
     (0x65, .ldMIxMHl), (0x66, .ldMIxMIx), (0x67, .ldMIxMIy), (0x68, .ldMHlA), (0x69, .ldMHlB),
     (0x6A, .ldMHlL), (0x6B, .ldMHlH), (0x6C, .ldMHlMBr 0x34#8), (0x6D, .ldMHlMHl), (0x6E, .ldMHlMIx),
     (0x6F, .ldMHlMIy)]
    (reads []) = true := by decide

theorem test_map_first_70 : List.all
    [(0x70, .ldMIyA), (0x71, .ldMIyB), (0x72, .ldMIyL), (0x73, .ldMIyH), (0x74, .ldMIyMBr 0x34#8),
     (0x75, .ldMIyMHl), (0x76, .ldMIyMIx), (0x77, .ldMIyMIy), (0x78, .ldMBrA 0x34#8), (0x79, .ldMBrB 0x34#8),
     (0x7A, .ldMBrL 0x34#8), (0x7B, .ldMBrH 0x34#8), (0x7D, .ldMBrMHl 0x34#8), (0x7E, .ldMBrMIx 0x34#8),
     (0x7F, .ldMBrMIy 0x34#8)]
    (reads []) = true := by decide

theorem test_map_first_80 : List.all
    [(0x80, .incA), (0x81, .incB), (0x82, .incL), (0x83, .incH), (0x84, .incBr), (0x85, .incMBr 0x34#8),
     (0x86, .incMHl), (0x87, .incSp), (0x88, .decA), (0x89, .decB), (0x8A, .decL), (0x8B, .decH),
     (0x8C, .decBr), (0x8D, .decMBr 0x34#8), (0x8E, .decMHl), (0x8F, .decSp)]
    (reads []) = true := by decide

theorem test_map_first_90 : List.all
    [(0x90, .incBa), (0x91, .incHl), (0x92, .incIx), (0x93, .incIy), (0x94, .bitAB),
     (0x95, .bitMHlImm 0x34#8), (0x96, .bitAImm 0x34#8), (0x97, .bitBImm 0x34#8), (0x98, .decBa),
     (0x99, .decHl), (0x9A, .decIx), (0x9B, .decIy), (0x9C, .andScImm 0x34#8), (0x9D, .orScImm 0x34#8),
     (0x9E, .xorScImm 0x34#8), (0x9F, .ldScImm 0x34#8)]
    (reads []) = true := by decide

theorem test_map_first_A0 : List.all
    [(0xA0, .pushBa), (0xA1, .pushHl), (0xA2, .pushIx), (0xA3, .pushIy), (0xA4, .pushBr), (0xA5, .pushEp),
     (0xA6, .pushIp), (0xA7, .pushSc), (0xA8, .popBa), (0xA9, .popHl), (0xAA, .popIx), (0xAB, .popIy),
     (0xAC, .popBr), (0xAD, .popEp), (0xAE, .popIp), (0xAF, .popSc)]
    (reads []) = true := by decide

theorem test_map_first_B0 : List.all
    [(0xB0, .ldAImm 0x34#8), (0xB1, .ldBImm 0x34#8), (0xB2, .ldLImm 0x34#8), (0xB3, .ldHImm 0x34#8),
     (0xB4, .ldBrImm 0x34#8), (0xB5, .ldMHlImm 0x34#8), (0xB6, .ldMIxImm 0x34#8), (0xB7, .ldMIyImm 0x34#8),
     (0xB8, .ldBaMAbs 0x1234#16), (0xB9, .ldHlMAbs 0x1234#16), (0xBA, .ldIxMAbs 0x1234#16),
     (0xBB, .ldIyMAbs 0x1234#16), (0xBC, .ldMAbsBa 0x1234#16), (0xBD, .ldMAbsHl 0x1234#16),
     (0xBE, .ldMAbsIx 0x1234#16), (0xBF, .ldMAbsIy 0x1234#16)]
    (reads []) = true := by decide

theorem test_map_first_C0 : List.all
    [(0xC0, .addBaImm 0x1234#16), (0xC1, .addHlImm 0x1234#16), (0xC2, .addIxImm 0x1234#16),
     (0xC3, .addIyImm 0x1234#16), (0xC4, .ldBaImm 0x1234#16), (0xC5, .ldHlImm 0x1234#16),
     (0xC6, .ldIxImm 0x1234#16), (0xC7, .ldIyImm 0x1234#16), (0xC8, .exBaHl), (0xC9, .exBaIx),
     (0xCA, .exBaIy), (0xCB, .exBaSp), (0xCC, .exAB), (0xCD, .exAMHl)]
    (reads []) = true := by decide

theorem test_map_first_D0 : List.all
    [(0xD0, .subBaImm 0x1234#16), (0xD1, .subHlImm 0x1234#16), (0xD2, .subIxImm 0x1234#16),
     (0xD3, .subIyImm 0x1234#16), (0xD4, .cpBaImm 0x1234#16), (0xD5, .cpHlImm 0x1234#16),
     (0xD6, .cpIxImm 0x1234#16), (0xD7, .cpIyImm 0x1234#16), (0xD8, .andMBrImm 0x34#8 0x12#8),
     (0xD9, .orMBrImm 0x34#8 0x12#8), (0xDA, .xorMBrImm 0x34#8 0x12#8), (0xDB, .cpMBrImm 0x34#8 0x12#8),
     (0xDC, .bitMBrImm 0x34#8 0x12#8), (0xDD, .ldMBrImm 0x34#8 0x12#8), (0xDE, .pack), (0xDF, .upck)]
    (reads []) = true := by decide

theorem test_map_first_E0 : List.all
    [(0xE0, .carsC 0x34#8), (0xE1, .carsNc 0x34#8), (0xE2, .carsZ 0x34#8), (0xE3, .carsNz 0x34#8),
     (0xE4, .jrsC 0x34#8), (0xE5, .jrsNc 0x34#8), (0xE6, .jrsZ 0x34#8), (0xE7, .jrsNz 0x34#8),
     (0xE8, .carlC 0x1234#16), (0xE9, .carlNc 0x1234#16), (0xEA, .carlZ 0x1234#16), (0xEB, .carlNz 0x1234#16),
     (0xEC, .jrlC 0x1234#16), (0xED, .jrlNc 0x1234#16), (0xEE, .jrlZ 0x1234#16), (0xEF, .jrlNz 0x1234#16)]
    (reads []) = true := by decide

theorem test_map_first_F0 : List.all
    [(0xF0, .cars 0x34#8), (0xF1, .jrs 0x34#8), (0xF2, .carl 0x1234#16), (0xF3, .jrl 0x1234#16),
     (0xF4, .jpHl), (0xF5, .djrNz 0x34#8), (0xF6, .swapA), (0xF7, .swapMHl), (0xF8, .ret), (0xF9, .rete),
     (0xFA, .rets), (0xFB, .callMAbs 0x1234#16), (0xFC, .intVec 0x34#8), (0xFD, .jpVec 0x34#8), (0xFF, .nop)]
    (reads []) = true := by decide

theorem test_map_CE_00 : List.all
    [(0x00, .addAMIxDd 0x34#8), (0x01, .addAMIyDd 0x34#8), (0x02, .addAMIxL), (0x03, .addAMIyL),
     (0x04, .addMHlA), (0x05, .addMHlImm 0x34#8), (0x06, .addMHlMIx), (0x07, .addMHlMIy),
     (0x08, .adcAMIxDd 0x34#8), (0x09, .adcAMIyDd 0x34#8), (0x0A, .adcAMIxL), (0x0B, .adcAMIyL),
     (0x0C, .adcMHlA), (0x0D, .adcMHlImm 0x34#8), (0x0E, .adcMHlMIx), (0x0F, .adcMHlMIy)]
    (reads [0xCE#8]) = true := by decide

theorem test_map_CE_10 : List.all
    [(0x10, .subAMIxDd 0x34#8), (0x11, .subAMIyDd 0x34#8), (0x12, .subAMIxL), (0x13, .subAMIyL),
     (0x14, .subMHlA), (0x15, .subMHlImm 0x34#8), (0x16, .subMHlMIx), (0x17, .subMHlMIy),
     (0x18, .sbcAMIxDd 0x34#8), (0x19, .sbcAMIyDd 0x34#8), (0x1A, .sbcAMIxL), (0x1B, .sbcAMIyL),
     (0x1C, .sbcMHlA), (0x1D, .sbcMHlImm 0x34#8), (0x1E, .sbcMHlMIx), (0x1F, .sbcMHlMIy)]
    (reads [0xCE#8]) = true := by decide

theorem test_map_CE_20 : List.all
    [(0x20, .andAMIxDd 0x34#8), (0x21, .andAMIyDd 0x34#8), (0x22, .andAMIxL), (0x23, .andAMIyL),
     (0x24, .andMHlA), (0x25, .andMHlImm 0x34#8), (0x26, .andMHlMIx), (0x27, .andMHlMIy),
     (0x28, .orAMIxDd 0x34#8), (0x29, .orAMIyDd 0x34#8), (0x2A, .orAMIxL), (0x2B, .orAMIyL), (0x2C, .orMHlA),
     (0x2D, .orMHlImm 0x34#8), (0x2E, .orMHlMIx), (0x2F, .orMHlMIy)]
    (reads [0xCE#8]) = true := by decide

theorem test_map_CE_30 : List.all
    [(0x30, .cpAMIxDd 0x34#8), (0x31, .cpAMIyDd 0x34#8), (0x32, .cpAMIxL), (0x33, .cpAMIyL), (0x34, .cpMHlA),
     (0x35, .cpMHlImm 0x34#8), (0x36, .cpMHlMIx), (0x37, .cpMHlMIy), (0x38, .xorAMIxDd 0x34#8),
     (0x39, .xorAMIyDd 0x34#8), (0x3A, .xorAMIxL), (0x3B, .xorAMIyL), (0x3C, .xorMHlA),
     (0x3D, .xorMHlImm 0x34#8), (0x3E, .xorMHlMIx), (0x3F, .xorMHlMIy)]
    (reads [0xCE#8]) = true := by decide

theorem test_map_CE_40 : List.all
    [(0x40, .ldAMIxDd 0x34#8), (0x41, .ldAMIyDd 0x34#8), (0x42, .ldAMIxL), (0x43, .ldAMIyL),
     (0x44, .ldMIxDdA 0x34#8), (0x45, .ldMIyDdA 0x34#8), (0x46, .ldMIxLA), (0x47, .ldMIyLA),
     (0x48, .ldBMIxDd 0x34#8), (0x49, .ldBMIyDd 0x34#8), (0x4A, .ldBMIxL), (0x4B, .ldBMIyL),
     (0x4C, .ldMIxDdB 0x34#8), (0x4D, .ldMIyDdB 0x34#8), (0x4E, .ldMIxLB), (0x4F, .ldMIyLB)]
    (reads [0xCE#8]) = true := by decide

theorem test_map_CE_50 : List.all
    [(0x50, .ldLMIxDd 0x34#8), (0x51, .ldLMIyDd 0x34#8), (0x52, .ldLMIxL), (0x53, .ldLMIyL),
     (0x54, .ldMIxDdL 0x34#8), (0x55, .ldMIyDdL 0x34#8), (0x56, .ldMIxLL), (0x57, .ldMIyLL),
     (0x58, .ldHMIxDd 0x34#8), (0x59, .ldHMIyDd 0x34#8), (0x5A, .ldHMIxL), (0x5B, .ldHMIyL),
     (0x5C, .ldMIxDdH 0x34#8), (0x5D, .ldMIyDdH 0x34#8), (0x5E, .ldMIxLH), (0x5F, .ldMIyLH)]
    (reads [0xCE#8]) = true := by decide

theorem test_map_CE_60 : List.all
    [(0x60, .ldMHlMIxDd 0x34#8), (0x61, .ldMHlMIyDd 0x34#8), (0x62, .ldMHlMIxL), (0x63, .ldMHlMIyL),
     (0x68, .ldMIxMIxDd 0x34#8), (0x69, .ldMIxMIyDd 0x34#8), (0x6A, .ldMIxMIxL), (0x6B, .ldMIxMIyL)]
    (reads [0xCE#8]) = true := by decide

theorem test_map_CE_70 : List.all
    [(0x78, .ldMIyMIxDd 0x34#8), (0x79, .ldMIyMIyDd 0x34#8), (0x7A, .ldMIyMIxL), (0x7B, .ldMIyMIyL)]
    (reads [0xCE#8]) = true := by decide

theorem test_map_CE_80 : List.all
    [(0x80, .slaA), (0x81, .slaB), (0x82, .slaMBr 0x34#8), (0x83, .slaMHl), (0x84, .sllA), (0x85, .sllB),
     (0x86, .sllMBr 0x34#8), (0x87, .sllMHl), (0x88, .sraA), (0x89, .sraB), (0x8A, .sraMBr 0x34#8),
     (0x8B, .sraMHl), (0x8C, .srlA), (0x8D, .srlB), (0x8E, .srlMBr 0x34#8), (0x8F, .srlMHl)]
    (reads [0xCE#8]) = true := by decide

theorem test_map_CE_90 : List.all
    [(0x90, .rlA), (0x91, .rlB), (0x92, .rlMBr 0x34#8), (0x93, .rlMHl), (0x94, .rlcA), (0x95, .rlcB),
     (0x96, .rlcMBr 0x34#8), (0x97, .rlcMHl), (0x98, .rrA), (0x99, .rrB), (0x9A, .rrMBr 0x34#8),
     (0x9B, .rrMHl), (0x9C, .rrcA), (0x9D, .rrcB), (0x9E, .rrcMBr 0x34#8), (0x9F, .rrcMHl)]
    (reads [0xCE#8]) = true := by decide

theorem test_map_CE_A0 : List.all
    [(0xA0, .cplA), (0xA1, .cplB), (0xA2, .cplMBr 0x34#8), (0xA3, .cplMHl), (0xA4, .negA), (0xA5, .negB),
     (0xA6, .negMBr 0x34#8), (0xA7, .negMHl), (0xA8, .sep), (0xAE, .halt), (0xAF, .slp)]
    (reads [0xCE#8]) = true := by decide

theorem test_map_CE_B0 : List.all
    [(0xB0, .andBImm 0x34#8), (0xB1, .andLImm 0x34#8), (0xB2, .andHImm 0x34#8), (0xB4, .orBImm 0x34#8),
     (0xB5, .orLImm 0x34#8), (0xB6, .orHImm 0x34#8), (0xB8, .xorBImm 0x34#8), (0xB9, .xorLImm 0x34#8),
     (0xBA, .xorHImm 0x34#8), (0xBC, .cpBImm 0x34#8), (0xBD, .cpLImm 0x34#8), (0xBE, .cpHImm 0x34#8),
     (0xBF, .cpBrImm 0x34#8)]
    (reads [0xCE#8]) = true := by decide

theorem test_map_CE_C0 : List.all
    [(0xC0, .ldABr), (0xC1, .ldASc), (0xC2, .ldBrA), (0xC3, .ldScA), (0xC4, .ldNbImm 0x34#8),
     (0xC5, .ldEpImm 0x34#8), (0xC6, .ldXpImm 0x34#8), (0xC7, .ldYpImm 0x34#8), (0xC8, .ldANb),
     (0xC9, .ldAEp), (0xCA, .ldAXp), (0xCB, .ldAYp), (0xCC, .ldNbA), (0xCD, .ldEpA), (0xCE, .ldXpA),
     (0xCF, .ldYpA)]
    (reads [0xCE#8]) = true := by decide

theorem test_map_CE_D0 : List.all
    [(0xD0, .ldAMAbs 0x1234#16), (0xD1, .ldBMAbs 0x1234#16), (0xD2, .ldLMAbs 0x1234#16),
     (0xD3, .ldHMAbs 0x1234#16), (0xD4, .ldMAbsA 0x1234#16), (0xD5, .ldMAbsB 0x1234#16),
     (0xD6, .ldMAbsL 0x1234#16), (0xD7, .ldMAbsH 0x1234#16), (0xD8, .mlt), (0xD9, .div)]
    (reads [0xCE#8]) = true := by decide

theorem test_map_CE_E0 : List.all
    [(0xE0, .jrsLt 0x34#8), (0xE1, .jrsLe 0x34#8), (0xE2, .jrsGt 0x34#8), (0xE3, .jrsGe 0x34#8),
     (0xE4, .jrsV 0x34#8), (0xE5, .jrsNv 0x34#8), (0xE6, .jrsP 0x34#8), (0xE7, .jrsM 0x34#8),
     (0xE8, .jrsF0 0x34#8), (0xE9, .jrsF1 0x34#8), (0xEA, .jrsF2 0x34#8), (0xEB, .jrsF3 0x34#8),
     (0xEC, .jrsNf0 0x34#8), (0xED, .jrsNf1 0x34#8), (0xEE, .jrsNf2 0x34#8), (0xEF, .jrsNf3 0x34#8)]
    (reads [0xCE#8]) = true := by decide

theorem test_map_CE_F0 : List.all
    [(0xF0, .carsLt 0x34#8), (0xF1, .carsLe 0x34#8), (0xF2, .carsGt 0x34#8), (0xF3, .carsGe 0x34#8),
     (0xF4, .carsV 0x34#8), (0xF5, .carsNv 0x34#8), (0xF6, .carsP 0x34#8), (0xF7, .carsM 0x34#8),
     (0xF8, .carsF0 0x34#8), (0xF9, .carsF1 0x34#8), (0xFA, .carsF2 0x34#8), (0xFB, .carsF3 0x34#8),
     (0xFC, .carsNf0 0x34#8), (0xFD, .carsNf1 0x34#8), (0xFE, .carsNf2 0x34#8), (0xFF, .carsNf3 0x34#8)]
    (reads [0xCE#8]) = true := by decide

theorem test_map_CF_00 : List.all
    [(0x00, .addBaBa), (0x01, .addBaHl), (0x02, .addBaIx), (0x03, .addBaIy), (0x04, .adcBaBa),
     (0x05, .adcBaHl), (0x06, .adcBaIx), (0x07, .adcBaIy), (0x08, .subBaBa), (0x09, .subBaHl),
     (0x0A, .subBaIx), (0x0B, .subBaIy), (0x0C, .sbcBaBa), (0x0D, .sbcBaHl), (0x0E, .sbcBaIx),
     (0x0F, .sbcBaIy)]
    (reads [0xCF#8]) = true := by decide

theorem test_map_CF_10 : List.all
    [(0x18, .cpBaBa), (0x19, .cpBaHl), (0x1A, .cpBaIx), (0x1B, .cpBaIy)]
    (reads [0xCF#8]) = true := by decide

theorem test_map_CF_20 : List.all
    [(0x20, .addHlBa), (0x21, .addHlHl), (0x22, .addHlIx), (0x23, .addHlIy), (0x24, .adcHlBa),
     (0x25, .adcHlHl), (0x26, .adcHlIx), (0x27, .adcHlIy), (0x28, .subHlBa), (0x29, .subHlHl),
     (0x2A, .subHlIx), (0x2B, .subHlIy), (0x2C, .sbcHlBa), (0x2D, .sbcHlHl), (0x2E, .sbcHlIx),
     (0x2F, .sbcHlIy)]
    (reads [0xCF#8]) = true := by decide

theorem test_map_CF_30 : List.all
    [(0x38, .cpHlBa), (0x39, .cpHlHl), (0x3A, .cpHlIx), (0x3B, .cpHlIy)]
    (reads [0xCF#8]) = true := by decide

theorem test_map_CF_40 : List.all
    [(0x40, .addIxBa), (0x41, .addIxHl), (0x42, .addIyBa), (0x43, .addIyHl), (0x44, .addSpBa),
     (0x45, .addSpHl), (0x48, .subIxBa), (0x49, .subIxHl), (0x4A, .subIyBa), (0x4B, .subIyHl),
     (0x4C, .subSpBa), (0x4D, .subSpHl)]
    (reads [0xCF#8]) = true := by decide

theorem test_map_CF_50 : List.all
    [(0x5C, .cpSpBa), (0x5D, .cpSpHl)]
    (reads [0xCF#8]) = true := by decide

theorem test_map_CF_60 : List.all
    [(0x60, .adcBaImm 0x1234#16), (0x61, .adcHlImm 0x1234#16), (0x62, .sbcBaImm 0x1234#16),
     (0x63, .sbcHlImm 0x1234#16), (0x68, .addSpImm 0x1234#16), (0x6A, .subSpImm 0x1234#16),
     (0x6C, .cpSpImm 0x1234#16), (0x6E, .ldSpImm 0x1234#16)]
    (reads [0xCF#8]) = true := by decide

theorem test_map_CF_70 : List.all
    [(0x70, .ldBaMSpDd 0x34#8), (0x71, .ldHlMSpDd 0x34#8), (0x72, .ldIxMSpDd 0x34#8),
     (0x73, .ldIyMSpDd 0x34#8), (0x74, .ldMSpDdBa 0x34#8), (0x75, .ldMSpDdHl 0x34#8),
     (0x76, .ldMSpDdIx 0x34#8), (0x77, .ldMSpDdIy 0x34#8), (0x78, .ldSpMAbs 0x1234#16),
     (0x7C, .ldMAbsSp 0x1234#16)]
    (reads [0xCF#8]) = true := by decide

theorem test_map_CF_B0 : List.all
    [(0xB0, .pushA), (0xB1, .pushB), (0xB2, .pushL), (0xB3, .pushH), (0xB4, .popA), (0xB5, .popB),
     (0xB6, .popL), (0xB7, .popH), (0xB8, .pushAll), (0xB9, .pushAle), (0xBC, .popAll), (0xBD, .popAle)]
    (reads [0xCF#8]) = true := by decide

theorem test_map_CF_C0 : List.all
    [(0xC0, .ldBaMHl), (0xC1, .ldHlMHl), (0xC2, .ldIxMHl), (0xC3, .ldIyMHl), (0xC4, .ldMHlBa),
     (0xC5, .ldMHlHl), (0xC6, .ldMHlIx), (0xC7, .ldMHlIy)]
    (reads [0xCF#8]) = true := by decide

theorem test_map_CF_D0 : List.all
    [(0xD0, .ldBaMIx), (0xD1, .ldHlMIx), (0xD2, .ldIxMIx), (0xD3, .ldIyMIx), (0xD4, .ldMIxBa),
     (0xD5, .ldMIxHl), (0xD6, .ldMIxIx), (0xD7, .ldMIxIy), (0xD8, .ldBaMIy), (0xD9, .ldHlMIy),
     (0xDA, .ldIxMIy), (0xDB, .ldIyMIy), (0xDC, .ldMIyBa), (0xDD, .ldMIyHl), (0xDE, .ldMIyIx),
     (0xDF, .ldMIyIy)]
    (reads [0xCF#8]) = true := by decide

theorem test_map_CF_E0 : List.all
    [(0xE0, .ldBaBa), (0xE1, .ldBaHl), (0xE2, .ldBaIx), (0xE3, .ldBaIy), (0xE4, .ldHlBa), (0xE5, .ldHlHl),
     (0xE6, .ldHlIx), (0xE7, .ldHlIy), (0xE8, .ldIxBa), (0xE9, .ldIxHl), (0xEA, .ldIxIx), (0xEB, .ldIxIy),
     (0xEC, .ldIyBa), (0xED, .ldIyHl), (0xEE, .ldIyIx), (0xEF, .ldIyIy)]
    (reads [0xCF#8]) = true := by decide

theorem test_map_CF_F0 : List.all
    [(0xF0, .ldSpBa), (0xF1, .ldSpHl), (0xF2, .ldSpIx), (0xF3, .ldSpIy), (0xF4, .ldHlSp), (0xF5, .ldHlPc),
     (0xF8, .ldBaSp), (0xF9, .ldBaPc), (0xFA, .ldIxSp), (0xFE, .ldIySp)]
    (reads [0xCF#8]) = true := by decide

/-! Whole words of each family, operand bytes in their order (R104). -/

theorem test_decodes_addAMAbs : decode [0x05#8, 0x00#8, 0x30#8] = .ok (.addAMAbs 0x3000#16, []) := rfl
theorem test_decodes_xorMBrImm : decode [0xDA#8, 0x10#8, 0xA5#8] = .ok (.xorMBrImm 0x10#8 0xA5#8, []) := rfl
theorem test_decodes_ldAMBr : decode [0x44#8, 0x6E#8, 0xCE#8] = .ok (.ldAMBr 0x6E#8, [0xCE#8]) := rfl
theorem test_decodes_subAMIxDd : decode [0xCE#8, 0x10#8, 0x34#8] = .ok (.subAMIxDd 0x34#8, []) := rfl
theorem test_decodes_ldHlImm : decode [0xC5#8, 0x03#8, 0x00#8] = .ok (.ldHlImm 0x0003#16, []) := rfl
theorem test_decodes_subSpImm : decode [0xCF#8, 0x6A#8, 0x04#8, 0x00#8] = .ok (.subSpImm 0x0004#16, []) := rfl
theorem test_decodes_pushAle : decode [0xCF#8, 0xB9#8] = .ok (.pushAle, []) := rfl
theorem test_decodes_sllMBr : decode [0xCE#8, 0x86#8, 0x10#8] = .ok (.sllMBr 0x10#8, []) := rfl
theorem test_decodes_carlC : decode [0xE8#8, 0xFE#8, 0x1F#8] = .ok (.carlC 0x1FFE#16, []) := rfl
theorem test_decodes_slp : decode [0xCE#8, 0xAF#8] = .ok (.slp, []) := rfl
theorem test_decodeTableWord_two_bytes : decodeTableWord 16 0x80CE = some (.slaA) := rfl
theorem test_decodeTableWord_zero_operands : decodeTableWord 8 0xF2 = some (.carl 0x0000#16) := rfl
theorem test_decodeTableWord_refuses : decodeTableWord 8 0x7C = none := rfl
theorem test_encodes_cpMBrImm : encode (.cpMBrImm 0x10#8 0x05#8) = [0xDB#8, 0x10#8, 0x05#8] := rfl

/-! One step, for each operation a row of file 96: the start state, the bytes at PC, and what the row says of the end state. -/

/-- File 96, row 1: ADD A,B (R146). -/
theorem test_row1_ADD_A_B :
    nextIs (step (given { tst with a := 0x7f#8, b := 0x01#8 } [(0x001000, 0x01#8)]))
      (fun t => t.a == 0x80#8 && t.pc == 0x1001#16 && t.sc == 0x0c#8) = true := by decide

/-- File 96, row 5: ADD A,[BR:10H] (R148). -/
theorem test_row5_ADD_A_BR_10H :
    nextIs (step (given (onModel .model1 { tst with a := 0x11#8, br := 0x20#8 }) [(0x001000, 0x04#8),
      (0x001001, 0x10#8), (0x002010, 0x22#8)]))
      (fun t => t.a == 0x33#8 && t.pc == 0x1002#16 && t.sc == 0x00#8) = true := by decide

/-- File 96, row 7: ADD A,[IY+L] (R153). -/
theorem test_row7_ADD_A_IY_L :
    nextIs (step (given { tst with a := 0x01#8, l := 0xff#8, iy := 0x0000#16, yp := 0x02#8 } [(0x001000,
      0xce#8), (0x001001, 0x03#8), (0x02ffff, 0x05#8)]))
      (fun t => t.a == 0x06#8 && t.pc == 0x1002#16 && t.sc == 0x00#8) = true := by decide

/-- File 96, row 11: ADD [HL],[IX] (R156). -/
theorem test_row11_ADD_HL_IX :
    nextIs (step (given { tst with h := 0x30#8, l := 0x00#8, ep := 0x01#8, ix := 0x3000#16, xp := 0x02#8 }
      [(0x001000, 0xce#8), (0x001001, 0x06#8), (0x013000, 0x01#8), (0x023000, 0x02#8)]))
      (fun t => t.pc == 0x1002#16 && t.sc == 0x00#8 && t.mem.byteAt 0x013000 == some 0x03#8) = true := by decide

/-- File 96, row 12: ADC A,B (R157). -/
theorem test_row12_ADC_A_B :
    nextIs (step (given { tst with a := 0xff#8, b := 0x00#8, sc := 0x02#8 } [(0x001000, 0x09#8)]))
      (fun t => t.a == 0x00#8 && t.pc == 0x1001#16 && t.sc == 0x03#8) = true := by decide

/-- File 96, row 15: SUB A,B (R168). -/
theorem test_row15_SUB_A_B :
    nextIs (step (given { tst with a := 0x00#8, b := 0x01#8 } [(0x001000, 0x11#8)]))
      (fun t => t.a == 0xff#8 && t.pc == 0x1001#16 && t.sc == 0x0a#8) = true := by decide

/-- File 96, row 19: SBC A,B (R179). -/
theorem test_row19_SBC_A_B :
    nextIs (step (given { tst with a := 0x00#8, b := 0xff#8, sc := 0x02#8 } [(0x001000, 0x19#8)]))
      (fun t => t.pc == 0x1001#16 && t.sc == 0x03#8) = true := by decide

/-- File 96, row 22: CP A,B (R190). -/
theorem test_row22_CP_A_B :
    nextIs (step (given { tst with a := 0x42#8, b := 0x42#8 } [(0x001000, 0x31#8)]))
      (fun t => t.pc == 0x1001#16 && t.sc == 0x01#8) = true := by decide

/-- File 96, row 29: INC A (R206). -/
theorem test_row29_INC_A :
    nextIs (step (given { tst with a := 0xff#8, sc := 0x02#8 } [(0x001000, 0x80#8)]))
      (fun t => t.a == 0x00#8 && t.pc == 0x1001#16 && t.sc == 0x03#8) = true := by decide

/-- File 96, row 34: DEC B (R210). -/
theorem test_row34_DEC_B :
    nextIs (step (given { tst with b := 0x00#8 } [(0x001000, 0x89#8)]))
      (fun t => t.b == 0xff#8 && t.pc == 0x1001#16 && t.sc == 0x00#8) = true := by decide

/-- File 96, row 38: NEG A (R214). -/
theorem test_row38_NEG_A :
    nextIs (step (given { tst with a := 0x01#8 } [(0x001000, 0xce#8), (0x001001, 0xa4#8)]))
      (fun t => t.a == 0xff#8 && t.pc == 0x1002#16 && t.sc == 0x0a#8) = true := by decide

/-- File 96, row 53: MLT (R217). -/
theorem test_row53_MLT :
    nextIs (step (given { tst with l := 0xff#8, a := 0xff#8, h := 0x00#8, sc := 0x06#8 } [(0x001000, 0xce#8),
      (0x001001, 0xd8#8)]))
      (fun t => t.l == 0x01#8 && t.h == 0xfe#8 && t.pc == 0x1002#16 && t.sc == 0x08#8) = true := by decide

/-- File 96, row 57: DIV (R218). -/
theorem test_row57_DIV :
    nextIs (step (given { tst with h := 0x00#8, l := 0xff#8, a := 0x01#8 } [(0x001000, 0xce#8), (0x001001,
      0xd9#8)]))
      (fun t => t.pc == 0x1002#16 && t.sc == 0x08#8) = true := by decide

/-- File 96, row 65: AND A,B (R232). -/
theorem test_row65_AND_A_B :
    nextIs (step (given { tst with a := 0xf0#8, b := 0x0f#8, sc := 0x06#8 } [(0x001000, 0x21#8)]))
      (fun t => t.a == 0x00#8 && t.pc == 0x1001#16 && t.sc == 0x07#8) = true := by decide

/-- File 96, row 72: OR A,B (R248). -/
theorem test_row72_OR_A_B :
    nextIs (step (given { tst with a := 0x00#8, b := 0x00#8, sc := 0x08#8 } [(0x001000, 0x29#8)]))
      (fun t => t.pc == 0x1001#16 && t.sc == 0x01#8) = true := by decide

/-- File 96, row 77: XOR A,A (R264). -/
theorem test_row77_XOR_A_A :
    nextIs (step (given { tst with a := 0x5a#8, sc := 0x02#8 } [(0x001000, 0x38#8)]))
      (fun t => t.a == 0x00#8 && t.pc == 0x1001#16 && t.sc == 0x03#8) = true := by decide

/-- File 96, row 81: BIT A,B (R280). -/
theorem test_row81_BIT_A_B :
    nextIs (step (given { tst with a := 0x80#8, b := 0x80#8 } [(0x001000, 0x94#8)]))
      (fun t => t.pc == 0x1001#16 && t.sc == 0x08#8) = true := by decide

/-- File 96, row 85: CPL A (R285). -/
theorem test_row85_CPL_A :
    nextIs (step (given { tst with a := 0x00#8 } [(0x001000, 0xce#8), (0x001001, 0xa0#8)]))
      (fun t => t.a == 0xff#8 && t.pc == 0x1002#16 && t.sc == 0x08#8) = true := by decide

/-- File 96, row 89: LD A,B (R301). -/
theorem test_row89_LD_A_B :
    nextIs (step (given { tst with a := 0x11#8, b := 0x22#8, sc := 0x0f#8 } [(0x001000, 0x41#8)]))
      (fun t => t.a == 0x22#8 && t.pc == 0x1001#16 && t.sc == 0x0f#8) = true := by decide

/-- File 96, row 127: EX A,B (R355). -/
theorem test_row127_EX_A_B :
    nextIs (step (given { tst with a := 0x12#8, b := 0x34#8 } [(0x001000, 0xcc#8)]))
      (fun t => t.a == 0x34#8 && t.b == 0x12#8 && t.pc == 0x1001#16 && t.sc == 0x00#8) = true := by decide

/-- File 96, row 129: SWAP A (R357). -/
theorem test_row129_SWAP_A :
    nextIs (step (given { tst with a := 0xf0#8, sc := 0x01#8 } [(0x001000, 0xf6#8)]))
      (fun t => t.a == 0x0f#8 && t.pc == 0x1001#16 && t.sc == 0x01#8) = true := by decide

/-- File 96, row 131: LD BA,#1234H (R405). -/
theorem test_row131_LD_BA_1234H :
    nextIs (step (given tst [(0x001000, 0xc4#8), (0x001001, 0x34#8), (0x001002, 0x12#8)]))
      (fun t => t.a == 0x34#8 && t.b == 0x12#8 && t.pc == 0x1003#16 && t.sc == 0x00#8) = true := by decide

/-- File 96, row 150: EX BA,HL (R413). -/
theorem test_row150_EX_BA_HL :
    nextIs (step (given { tst with b := 0x12#8, a := 0x34#8, h := 0x56#8, l := 0x78#8 } [(0x001000, 0xc8#8)]))
      (fun t => t.a == 0x78#8 && t.b == 0x56#8 && t.l == 0x34#8 && t.h == 0x12#8 && t.pc == 0x1001#16 && t.sc
        == 0x00#8) = true := by decide

/-- File 96, row 152: ADD BA,HL (R442). -/
theorem test_row152_ADD_BA_HL :
    nextIs (step (given { tst with b := 0x7f#8, a := 0xff#8, h := 0x00#8, l := 0x01#8 } [(0x001000, 0xcf#8),
      (0x001001, 0x01#8)]))
      (fun t => t.a == 0x00#8 && t.b == 0x80#8 && t.pc == 0x1002#16 && t.sc == 0x0c#8) = true := by decide

/-- File 96, row 159: ADC BA,HL (R452). -/
theorem test_row159_ADC_BA_HL :
    nextIs (step (given { tst with b := 0xff#8, a := 0xff#8, h := 0x00#8, l := 0x00#8, sc := 0x02#8 }
      [(0x001000, 0xcf#8), (0x001001, 0x05#8)]))
      (fun t => t.a == 0x00#8 && t.b == 0x00#8 && t.pc == 0x1002#16 && t.sc == 0x03#8) = true := by decide

/-- File 96, row 161: SUB BA,#0001H (R457). -/
theorem test_row161_SUB_BA_0001H :
    nextIs (step (given { tst with b := 0x00#8, a := 0x00#8 } [(0x001000, 0xd0#8), (0x001001, 0x01#8),
      (0x001002, 0x00#8)]))
      (fun t => t.a == 0xff#8 && t.b == 0xff#8 && t.pc == 0x1003#16 && t.sc == 0x0a#8) = true := by decide

/-- File 96, row 165: SBC BA,HL (R466). -/
theorem test_row165_SBC_BA_HL :
    nextIs (step (given { tst with b := 0x00#8, a := 0x00#8, h := 0xff#8, l := 0xff#8, sc := 0x02#8 }
      [(0x001000, 0xcf#8), (0x001001, 0x0d#8)]))
      (fun t => t.pc == 0x1002#16 && t.sc == 0x03#8) = true := by decide

/-- File 96, row 167: CP BA,HL (R470). -/
theorem test_row167_CP_BA_HL :
    nextIs (step (given { tst with b := 0x12#8, a := 0x34#8, h := 0x12#8, l := 0x34#8 } [(0x001000, 0xcf#8),
      (0x001001, 0x19#8)]))
      (fun t => t.pc == 0x1002#16 && t.sc == 0x01#8) = true := by decide

/-- File 96, row 171: INC BA (R478). -/
theorem test_row171_INC_BA :
    nextIs (step (given { tst with b := 0xff#8, a := 0xff#8, sc := 0x02#8 } [(0x001000, 0x90#8)]))
      (fun t => t.a == 0x00#8 && t.b == 0x00#8 && t.pc == 0x1001#16 && t.sc == 0x03#8) = true := by decide

/-- File 96, row 174: DEC IX (R480). -/
theorem test_row174_DEC_IX :
    nextIs (step (given { tst with ix := 0x0000#16 } [(0x001000, 0x9a#8)]))
      (fun t => t.ix == 0xffff#16 && t.pc == 0x1001#16 && t.sc == 0x00#8) = true := by decide

/-- File 96, row 177: PACK (R501). -/
theorem test_row177_PACK :
    nextIs (step (given { tst with a := 0x04#8, b := 0x38#8, sc := 0x0f#8 } [(0x001000, 0xde#8)]))
      (fun t => t.a == 0x84#8 && t.pc == 0x1001#16 && t.sc == 0x0f#8) = true := by decide

/-- File 96, row 178: UPCK (R502). -/
theorem test_row178_UPCK :
    nextIs (step (given { tst with a := 0xf9#8, b := 0x00#8 } [(0x001000, 0xdf#8)]))
      (fun t => t.a == 0x09#8 && t.b == 0x0f#8 && t.pc == 0x1001#16 && t.sc == 0x00#8) = true := by decide

/-- File 96, row 179: SEP (R503). -/
theorem test_row179_SEP :
    nextIs (step (given { tst with a := 0x80#8, b := 0x00#8 } [(0x001000, 0xce#8), (0x001001, 0xa8#8)]))
      (fun t => t.b == 0xff#8 && t.pc == 0x1002#16 && t.sc == 0x00#8) = true := by decide

/-- File 96, row 181: SLA A (R504). -/
theorem test_row181_SLA_A :
    nextIs (step (given { tst with a := 0x40#8 } [(0x001000, 0xce#8), (0x001001, 0x80#8)]))
      (fun t => t.a == 0x80#8 && t.pc == 0x1002#16 && t.sc == 0x0c#8) = true := by decide

/-- File 96, row 185: SLL A (R507). -/
theorem test_row185_SLL_A :
    nextIs (step (given { tst with a := 0x40#8, sc := 0x04#8 } [(0x001000, 0xce#8), (0x001001, 0x84#8)]))
      (fun t => t.a == 0x80#8 && t.pc == 0x1002#16 && t.sc == 0x0c#8) = true := by decide

/-- File 96, row 188: SRA A (R510). -/
theorem test_row188_SRA_A :
    nextIs (step (given { tst with a := 0x80#8 } [(0x001000, 0xce#8), (0x001001, 0x88#8)]))
      (fun t => t.a == 0xc0#8 && t.pc == 0x1002#16 && t.sc == 0x08#8) = true := by decide

/-- File 96, row 191: SRL A (R513). -/
theorem test_row191_SRL_A :
    nextIs (step (given { tst with a := 0x80#8, sc := 0x08#8 } [(0x001000, 0xce#8), (0x001001, 0x8c#8)]))
      (fun t => t.a == 0x40#8 && t.pc == 0x1002#16 && t.sc == 0x00#8) = true := by decide

/-- File 96, row 194: RL A (R516). -/
theorem test_row194_RL_A :
    nextIs (step (given { tst with a := 0x80#8, sc := 0x02#8 } [(0x001000, 0xce#8), (0x001001, 0x90#8)]))
      (fun t => t.a == 0x01#8 && t.pc == 0x1002#16 && t.sc == 0x02#8) = true := by decide

/-- File 96, row 197: RLC A (R519). -/
theorem test_row197_RLC_A :
    nextIs (step (given { tst with a := 0x80#8, sc := 0x00#8 } [(0x001000, 0xce#8), (0x001001, 0x94#8)]))
      (fun t => t.a == 0x01#8 && t.pc == 0x1002#16 && t.sc == 0x02#8) = true := by decide

/-- File 96, row 200: RR A (R522). -/
theorem test_row200_RR_A :
    nextIs (step (given { tst with a := 0x01#8, sc := 0x02#8 } [(0x001000, 0xce#8), (0x001001, 0x98#8)]))
      (fun t => t.a == 0x80#8 && t.pc == 0x1002#16 && t.sc == 0x0a#8) = true := by decide

/-- File 96, row 203: RRC A (R525). -/
theorem test_row203_RRC_A :
    nextIs (step (given { tst with a := 0x01#8 } [(0x001000, 0xce#8), (0x001001, 0x9c#8)]))
      (fun t => t.a == 0x80#8 && t.pc == 0x1002#16 && t.sc == 0x0a#8) = true := by decide

/-- File 96, row 206: PUSH A (R551). -/
theorem test_row206_PUSH_A :
    nextIs (step (given { tst with a := 0x5a#8, sp := 0x0000#16 } [(0x001000, 0xcf#8), (0x001001, 0xb0#8)]))
      (fun t => t.sp == 0xffff#16 && t.pc == 0x1002#16 && t.sc == 0x00#8 && t.mem.byteAt 0x00FFFF == some
        0x5A#8) = true := by decide

/-- File 96, row 207: PUSH A (R551). -/
theorem test_row207_PUSH_A :
    nextIs (step (given { tst with a := 0x5a#8, sp := 0xf800#16, cfg := { resetConfig with spp := 0x04#8 } }
      [(0x001000, 0xcf#8), (0x001001, 0xb0#8)]))
      (fun t => t.sp == 0xf7ff#16 && t.pc == 0x1002#16 && t.sc == 0x00#8 && t.mem.byteAt 0x04F7FF == some
        0x5A#8) = true := by decide

/-- File 96, row 219: POP A (R559). -/
theorem test_row219_POP_A :
    nextIs (step (given { tst with a := 0x00#8, sp := 0xf7ff#16 } [(0x001000, 0xcf#8), (0x001001, 0xb4#8),
      (0x00f7ff, 0x5a#8)]))
      (fun t => t.a == 0x5a#8 && t.sp == 0xf800#16 && t.pc == 0x1002#16 && t.sc == 0x00#8) = true := by decide

/-- File 96, row 227: POP ALL (R565). -/
theorem test_row227_POP_ALL :
    nextIs (step (given
      { tst with sp := 0xf7f7#16, a := 0x00#8, b := 0x00#8, h := 0x00#8, l := 0x00#8, ix := 0x0000#16, iy := 0x0000#16, br := 0x00#8, sc := 0x0f#8 }
      [(0x001000, 0xcf#8), (0x001001, 0xbc#8), (0x00f7f7, 0x77#8), (0x00f7f8, 0x66#8), (0x00f7f9, 0x55#8),
      (0x00f7fa, 0x44#8), (0x00f7fb, 0x33#8), (0x00f7fc, 0x22#8), (0x00f7fd, 0x11#8), (0x00f7fe, 0xa1#8),
      (0x00f7ff, 0xb1#8)]))
      (fun t => t.a == 0xa1#8 && t.b == 0xb1#8 && t.l == 0x22#8 && t.h == 0x11#8 && t.br == 0x77#8 && t.ix ==
        0x3344#16 && t.iy == 0x5566#16 && t.sp == 0xf800#16 && t.pc == 0x1002#16 && t.sc == 0x0f#8) = true :=
        by decide

/-- File 96, row 228: POP ALE (R566). -/
theorem test_row228_POP_ALE :
    nextIs (step (given
      { tst with sp := 0xf7f4#16, a := 0x00#8, b := 0x00#8, h := 0x00#8, l := 0x00#8, ix := 0x0000#16, iy := 0x0000#16, br := 0x00#8 }
      [(0x001000, 0xcf#8), (0x001001, 0xbd#8), (0x00f7f4, 0x03#8), (0x00f7f5, 0x02#8), (0x00f7f6, 0x01#8),
      (0x00f7f7, 0x77#8), (0x00f7f8, 0x66#8), (0x00f7f9, 0x55#8), (0x00f7fa, 0x44#8), (0x00f7fb, 0x33#8),
      (0x00f7fc, 0x22#8), (0x00f7fd, 0x11#8), (0x00f7fe, 0xa1#8), (0x00f7ff, 0xb1#8)]))
      (fun t => t.a == 0xa1#8 && t.b == 0xb1#8 && t.l == 0x22#8 && t.h == 0x11#8 && t.br == 0x77#8 && t.ix ==
        0x3344#16 && t.iy == 0x5566#16 && t.sp == 0xf800#16 && t.ep == 0x01#8 && t.xp == 0x02#8 && t.yp ==
        0x03#8 && t.pc == 0x1002#16 && t.sc == 0x00#8) = true := by decide

/-- File 96, row 229: JRS rr=10H (R598). -/
theorem test_row229_JRS_rr_10H :
    nextIs (step (given tst [(0x001000, 0xf1#8), (0x001001, 0x10#8)]))
      (fun t => t.pc == 0x1011#16 && t.sc == 0x00#8) = true := by decide

/-- File 96, row 233: JRS rr=10H (R598). -/
theorem test_row233_JRS_rr_10H :
    nextIs (step (given { tst with pc := 0xfffe#16, nb := 0x01#8, cb := 0x01#8 } [(0x00fffe, 0xf1#8),
      (0x00ffff, 0x10#8)]))
      (fun t => t.pc == 0x000f#16 && t.sc == 0x00#8) = true := by decide

/-- File 96, row 240: JRS LT,rr=10H (R600). -/
theorem test_row240_JRS_LT_rr_10H :
    nextIs (step (given { tst with sc := 0x08#8 } [(0x001000, 0xce#8), (0x001001, 0xe0#8), (0x001002, 0x10#8)]))
      (fun t => t.pc == 0x1012#16 && t.sc == 0x08#8) = true := by decide

/-- File 96, row 251: JRS NF0,rr=10H (R600). -/
theorem test_row251_JRS_NF0_rr_10H :
    nextIs (step (given { tst with pins := { Pins.idle with f := 1#4 } } [(0x001000, 0xce#8), (0x001001,
      0xec#8), (0x001002, 0x10#8)]))
      (fun t => t.pc == 0x1003#16 && t.sc == 0x00#8) = true := by decide

/-- File 96, row 253: JRL qqrr=FFFEH (R601). -/
theorem test_row253_JRL_qqrr_FFFEH :
    nextIs (step (given tst [(0x001000, 0xf3#8), (0x001001, 0xfe#8), (0x001002, 0xff#8)]))
      (fun t => t.pc == 0x1000#16 && t.sc == 0x00#8) = true := by decide

/-- File 96, row 254: JRL qqrr=8000H (R601). -/
theorem test_row254_JRL_qqrr_8000H :
    nextIs (step (given { tst with nb := 0x02#8, cb := 0x00#8 } [(0x001000, 0xf3#8), (0x001001, 0x00#8),
      (0x001002, 0x80#8)]))
      (fun t => t.cb == 0x02#8 && t.pc == 0x9002#16 && t.sc == 0x00#8) = true := by decide

/-- File 96, row 256: JRL NC,qqrr=0100H (R602). -/
theorem test_row256_JRL_NC_qqrr_0100H :
    nextIs (step (given { tst with sc := 0x02#8, nb := 0x07#8, cb := 0x01#8 } [(0x001000, 0xed#8), (0x001001,
      0x00#8), (0x001002, 0x01#8)]))
      (fun t => t.nb == 0x01#8 && t.pc == 0x1003#16 && t.sc == 0x02#8) = true := by decide

/-- File 96, row 257: DJR NZ,rr=FEH (R603). -/
theorem test_row257_DJR_NZ_rr_FEH :
    nextIs (step (given { tst with b := 0x02#8, sc := 0x03#8 } [(0x001000, 0xf5#8), (0x001001, 0xfe#8)]))
      (fun t => t.b == 0x01#8 && t.pc == 0x0fff#16 && t.sc == 0x02#8) = true := by decide

/-- File 96, row 258: DJR NZ,rr=FEH (R603). -/
theorem test_row258_DJR_NZ_rr_FEH :
    nextIs (step (given { tst with b := 0x01#8 } [(0x001000, 0xf5#8), (0x001001, 0xfe#8)]))
      (fun t => t.b == 0x00#8 && t.pc == 0x1002#16 && t.sc == 0x01#8) = true := by decide

/-- File 96, row 260: JP HL (R604). -/
theorem test_row260_JP_HL :
    nextIs (step (given { tst with h := 0x87#8, l := 0x65#8, nb := 0x02#8, cb := 0x01#8 } [(0x001000, 0xf4#8)]))
      (fun t => t.cb == 0x02#8 && t.pc == 0x8765#16 && t.sc == 0x00#8) = true := by decide

/-- File 96, row 262: JP [FFH] (R605). -/
theorem test_row262_JP_FFH :
    nextIs (step (given tst [(0x0000ff, 0x34#8), (0x000100, 0x12#8), (0x001000, 0xfd#8), (0x001001, 0xff#8)]))
      (fun t => t.pc == 0x1234#16 && t.sc == 0x00#8) = true := by decide

/-- File 96, row 263: CARS rr=1FH (R606). -/
theorem test_row263_CARS_rr_1FH :
    nextIs (step (given { tst with pc := 0x9000#16, sp := 0xf800#16, nb := 0x02#8, cb := 0x01#8 } [(0x009000,
      0xf0#8), (0x009001, 0x1f#8)]))
      (fun t => t.sp == 0xf7fe#16 && t.cb == 0x02#8 && t.pc == 0x9020#16 && t.sc == 0x00#8 && t.mem.byteAt
        0x00F7FE == some 0x02#8 && t.mem.byteAt 0x00F7FF == some 0x90#8) = true := by decide

/-- File 96, row 264: CARS rr=1FH (R606). -/
theorem test_row264_CARS_rr_1FH :
    nextIs (step (given (maximum { tst with pc := 0x9000#16, sp := 0xf800#16, nb := 0x02#8, cb := 0x01#8 })
      [(0x009000, 0xf0#8), (0x009001, 0x1f#8)]))
      (fun t => t.sp == 0xf7fd#16 && t.cb == 0x02#8 && t.pc == 0x9020#16 && t.sc == 0x00#8 && t.mem.byteAt
        0x00F7FD == some 0x02#8 && t.mem.byteAt 0x00F7FE == some 0x90#8 && t.mem.byteAt 0x00F7FF == some
        0x01#8) = true := by decide

/-- File 96, row 266: CARS Z,rr=1FH (R607). -/
theorem test_row266_CARS_Z_rr_1FH :
    nextIs (step (given (maximum
      { tst with pc := 0x9000#16, sp := 0xf800#16, nb := 0x02#8, cb := 0x01#8, sc := 0x00#8 }) [(0x009000,
      0xe2#8), (0x009001, 0x1f#8)]))
      (fun t => t.nb == 0x01#8 && t.pc == 0x9002#16 && t.sc == 0x00#8) = true := by decide

/-- File 96, row 267: CARS GE,rr=1EH (R608). -/
theorem test_row267_CARS_GE_rr_1EH :
    nextIs (step (given (maximum
      { tst with pc := 0x9000#16, sp := 0xf800#16, nb := 0x02#8, cb := 0x01#8, sc := 0x00#8 }) [(0x009000,
      0xce#8), (0x009001, 0xf3#8), (0x009002, 0x1e#8)]))
      (fun t => t.sp == 0xf7fd#16 && t.cb == 0x02#8 && t.pc == 0x9020#16 && t.sc == 0x00#8 && t.mem.byteAt
        0x00F7FD == some 0x03#8 && t.mem.byteAt 0x00F7FE == some 0x90#8 && t.mem.byteAt 0x00F7FF == some
        0x01#8) = true := by decide

/-- File 96, row 268: CARL qqrr=1FFEH (R609). -/
theorem test_row268_CARL_qqrr_1FFEH :
    nextIs (step (given (maximum { tst with pc := 0x9000#16, sp := 0xf800#16, nb := 0x02#8, cb := 0x01#8 })
      [(0x009000, 0xf2#8), (0x009001, 0xfe#8), (0x009002, 0x1f#8)]))
      (fun t => t.sp == 0xf7fd#16 && t.cb == 0x02#8 && t.pc == 0xb000#16 && t.sc == 0x00#8 && t.mem.byteAt
        0x00F7FD == some 0x03#8 && t.mem.byteAt 0x00F7FE == some 0x90#8 && t.mem.byteAt 0x00F7FF == some
        0x01#8) = true := by decide

/-- File 96, row 270: CALL [2000H] (R611). -/
theorem test_row270_CALL_2000H :
    nextIs (step (given (maximum
      { tst with pc := 0x9000#16, sp := 0xf800#16, nb := 0x02#8, cb := 0x01#8, ep := 0x03#8 }) [(0x009000,
      0xfb#8), (0x009001, 0x00#8), (0x009002, 0x20#8), (0x032000, 0xcd#8), (0x032001, 0xab#8)]))
      (fun t => t.sp == 0xf7fd#16 && t.cb == 0x02#8 && t.pc == 0xabcd#16 && t.sc == 0x00#8 && t.mem.byteAt
        0x00F7FD == some 0x03#8 && t.mem.byteAt 0x00F7FE == some 0x90#8 && t.mem.byteAt 0x00F7FF == some
        0x01#8) = true := by decide

/-- File 96, row 272: RET (R612). -/
theorem test_row272_RET :
    nextIs (step (given (maximum { tst with pc := 0xb100#16, nb := 0x02#8, cb := 0x02#8, sp := 0xf7fd#16 })
      [(0x00f7fd, 0x03#8), (0x00f7fe, 0x90#8), (0x00f7ff, 0x01#8), (0x013100, 0xf8#8)]))
      (fun t => t.sp == 0xf800#16 && t.nb == 0x01#8 && t.cb == 0x01#8 && t.pc == 0x9003#16 && t.sc == 0x00#8)
        = true := by decide

/-- File 96, row 274: RETS (R614). -/
theorem test_row274_RETS :
    nextIs (step (given (maximum { tst with pc := 0xb100#16, nb := 0x02#8, cb := 0x02#8, sp := 0xf7fd#16 })
      [(0x00f7fd, 0x03#8), (0x00f7fe, 0x90#8), (0x00f7ff, 0x01#8), (0x013100, 0xfa#8)]))
      (fun t => t.sp == 0xf800#16 && t.nb == 0x01#8 && t.cb == 0x01#8 && t.pc == 0x9005#16 && t.sc == 0x00#8)
        = true := by decide

/-- File 96, row 276: RETE (R613). -/
theorem test_row276_RETE :
    nextIs (step (given (maximum
      { tst with pc := 0xb100#16, nb := 0x02#8, cb := 0x02#8, sc := 0xc1#8, sp := 0xf7fc#16 }) [(0x00f7fc,
      0x54#8), (0x00f7fd, 0x03#8), (0x00f7fe, 0x90#8), (0x00f7ff, 0x01#8), (0x013100, 0xf9#8)]))
      (fun t => t.sp == 0xf800#16 && t.nb == 0x01#8 && t.cb == 0x01#8 && t.pc == 0x9003#16 && t.sc == 0x54#8)
        = true := by decide

/-- File 96, row 278: INT [20H] (R615). -/
theorem test_row278_INT_20H :
    nextIs (step (given (maximum
      { tst with pc := 0x9000#16, nb := 0x02#8, cb := 0x01#8, ep := 0x03#8, sc := 0x41#8, sp := 0xf800#16 })
      [(0x000020, 0xcd#8), (0x000021, 0xab#8), (0x009000, 0xfc#8), (0x009001, 0x20#8)]))
      (fun t => t.sp == 0xf7fc#16 && t.cb == 0x02#8 && t.pc == 0xabcd#16 && t.sc == 0x41#8 && t.mem.byteAt
        0x00F7FC == some 0x41#8 && t.mem.byteAt 0x00F7FD == some 0x02#8 && t.mem.byteAt 0x00F7FE == some
        0x90#8 && t.mem.byteAt 0x00F7FF == some 0x01#8) = true := by decide

/-- File 96, row 280: NOP (R640). -/
theorem test_row280_NOP :
    nextIs (step (given { tst with sc := 0xc5#8 } [(0x001000, 0xff#8)]))
      (fun t => t.pc == 0x1001#16 && t.sc == 0xc5#8) = true := by decide

/-- File 96, row 281: HALT (R641). -/
theorem test_row281_HALT :
    nextIs (step (given tst [(0x001000, 0xce#8), (0x001001, 0xae#8)]))
      (fun t => t.pc == 0x1002#16 && t.sc == 0x00#8 && t.status == .halt) = true := by decide

/-- File 96, row 282: SLP (R642). -/
theorem test_row282_SLP :
    nextIs (step (given tst [(0x001000, 0xce#8), (0x001001, 0xaf#8)]))
      (fun t => t.pc == 0x1002#16 && t.sc == 0x00#8 && t.status == .sleep) = true := by decide

/-! The source's own examples of the decimal, the unpack and the combined operation and of DIV (file 95, sections 2.3, 2.4, 2.7 and 3.1). -/

theorem test_decimal_add_55_28 : nextIs (exec (.addAImm 0x28#8) { tst with a := 0x55#8, sc := 0x10#8 })
    (fun t => t.a == 0x83#8 && t.sc == 0x10#8) = true := by decide
theorem test_decimal_sub_74_98 : nextIs (exec (.subAImm 0x98#8) { tst with a := 0x74#8, sc := 0x10#8 })
    (fun t => t.a == 0x76#8 && t.sc == 0x12#8) = true := by decide
theorem test_unpack_add_C7_52 : nextIs (exec .addAB { tst with a := 0xC7#8, b := 0x52#8, sc := 0x20#8 })
    (fun t => t.a == 0x09#8 && t.sc == 0x2C#8) = true := by decide
theorem test_unpack_decimal_sub_88_39 : nextIs (exec .subAB { tst with a := 0x88#8, b := 0x39#8, sc := 0x30#8 })
    (fun t => t.a == 0x09#8 && t.sc == 0x32#8) = true := by decide
theorem test_div_0301_by_02 : nextIs (exec .div { tst with h := 0x03#8, l := 0x01#8, a := 0x02#8 })
    (fun t => t.l == 0x01#8 && t.h == 0x03#8 && t.sc == 0x0C#8) = true := by decide

/-! The scenarios E1 to E10 of file 95, section 5 (R672). -/

/-- The common set-up: PC 9000H in bank 2, SP F800H, SC 03H, the four vectors, a NOP at PC. -/
def setUp : State :=
  given { tst with pc := 0x9000#16, cb := 0x02#8, nb := 0x02#8, sp := 0xF800#16, sc := 0x03#8,
                   pins := { Pins.idle with vector3 := 0x0A#8, vector2 := 0x08#8, vector1 := 0x06#8 } }
    [(0x02, 0x00#8), (0x03, 0x03#8), (0x04, 0x40#8), (0x05, 0x01#8), (0x06, 0x00#8), (0x07, 0x07#8),
     (0x08, 0x00#8), (0x09, 0x06#8), (0x0A, 0x00#8), (0x0B, 0x05#8), (0x0140, 0xF9#8), (0x011000, 0xFF#8)]

/-- The set-up with a request at the sampling point and I1, I0 as given. -/
def asking (p : Pins → Pins) (sc : Byte) : State := { setUp with pins := p setUp.pins, sc := sc }

theorem test_E1_nmi_maximum : nextIs (step (maximum { setUp with pc := 0x9001#16, nmiPending := true }))
    (fun t => t.pc == 0x0140#16 && t.sp == 0xF7FC#16 && t.sc == 0xC3#8 && t.cb == 0x02#8 &&
      !t.nmiPending && t.mem.byteAt 0xF7FF == some 0x02#8 && t.mem.byteAt 0xF7FE == some 0x90#8 &&
      t.mem.byteAt 0xF7FD == some 0x01#8 && t.mem.byteAt 0xF7FC == some 0x03#8) = true := by decide
theorem test_E1_rete : nextIs (step (given (maximum { setUp with pc := 0x0140#16, sp := 0xF7FC#16, sc := 0xC3#8 })
      [(0xF7FC, 0x03#8), (0xF7FD, 0x01#8), (0xF7FE, 0x90#8), (0xF7FF, 0x02#8)]))
    (fun t => t.pc == 0x9001#16 && t.sp == 0xF800#16 && t.sc == 0x03#8 && t.nb == 0x02#8 && t.cb == 0x02#8 &&
      t.intHoldoff) = true := by decide
theorem test_E2_nmi_minimum : nextIs (step { setUp with pc := 0x9001#16, nmiPending := true })
    (fun t => t.pc == 0x0140#16 && t.sp == 0xF7FD#16 && t.sc == 0xC3#8 && t.mem.byteAt 0xF7FF == some 0x90#8 &&
      t.mem.byteAt 0xF7FE == some 0x01#8 && t.mem.byteAt 0xF7FD == some 0x03#8) = true := by decide
theorem test_E3_irq3_at_level_2 : nextIs (step (asking (fun p => { p with irq3Low := true }) 0x80#8))
    (fun t => t.sc == 0xC0#8 && t.pc == 0x0500#16) = true := by decide
theorem test_E3_irq2_at_level_2_waits : nextIs (step (asking (fun p => { p with irq2Low := true }) 0x80#8))
    (fun t => t.sc == 0x80#8 && t.pc == 0x9001#16) = true := by decide
theorem test_E3_irq1_at_level_0 : nextIs (step (asking (fun p => { p with irq1Low := true }) 0x00#8))
    (fun t => t.sc == 0x40#8 && t.pc == 0x0700#16) = true := by decide
theorem test_E3_irq1_at_level_1_waits : nextIs (step (asking (fun p => { p with irq1Low := true }) 0x40#8))
    (fun t => t.sc == 0x40#8 && t.pc == 0x9001#16) = true := by decide
theorem test_E4_irq3_before_irq1 :
    nextIs (step (asking (fun p => { p with irq3Low := true, irq1Low := true }) 0x00#8))
    (fun t => t.sc == 0xC0#8 && t.pc == 0x0500#16) = true := by decide
theorem test_E5_hold_off_lets_one_instruction_run :
    nextIs (step { asking (fun p => { p with irq1Low := true }) 0x00#8 with intHoldoff := true })
    (fun t => t.pc == 0x9001#16 && !t.intHoldoff) = true := by decide
theorem test_E6_zero_division : nextIs (step (given { setUp with pc := 0x2000#16, h := 0x1A#8, l := 0x16#8, sc := 0x00#8 }
      [(0x2000, 0xCE#8), (0x2001, 0xD9#8)]))
    (fun t => t.pc == 0x0300#16 && t.sp == 0xF7FD#16 && t.sc == 0x0C#8 && t.h == 0x1A#8 && t.l == 0x16#8 &&
      t.mem.byteAt 0xF7FF == some 0x20#8 && t.mem.byteAt 0xF7FE == some 0x02#8 &&
      t.mem.byteAt 0xF7FD == some 0x0C#8) = true := by decide
theorem test_E7_imask_defers_nmi :
    nextIs (step { asking (fun p => { p with imaskLow := true }) 0x00#8 with nmiPending := true })
    (fun t => t.pc == 0x9001#16 && t.nmiPending) = true := by decide
theorem test_E8_vector_from_the_peripheral :
    nextIs (step (given (maximum (asking (fun p => { p with irq2Low := true, vector2 := 0x20#8 }) 0x40#8))
      [(0x20, 0xCD#8), (0x21, 0xAB#8)]))
    (fun t => t.pc == 0xABCD#16 && t.sp == 0xF7FC#16 && t.sc == 0x80#8 && t.cb == 0x02#8 &&
      t.mem.byteAt 0xF7FC == some 0x40#8 && t.mem.byteAt 0xF7FD == some 0x00#8) = true := by decide
theorem test_E10_reset : nextIs (step (given State.reset [(0x00, 0x00#8), (0x01, 0x01#8)]))
    (fun t => t.pc == 0x0100#16 && t.sc == 0xC0#8 && t.nb == 0x01#8 && t.cb == 0x01#8 && t.ep == 0x00#8 &&
      t.sp == 0x0000#16 && t.status == .run) = true := by decide

/-! Reset, standby, bus release, the stops and the host's two functions. -/

theorem test_sr_low_resets : nextIs (step { setUp with pins := { Pins.idle with srLow := true } })
    (fun t => t.status == .reset && t.sc == 0xC0#8 && t.nb == 0x01#8) = true := by decide
theorem test_sleep_wakes_on_nmi : nextIs (step { setUp with status := .sleep, nmiPending := true })
    (fun t => t.status == .run && t.pc == 0x0140#16) = true := by decide
theorem test_edge_from_the_schedule_is_latched :
    nextIs (step { setUp with schedule := [{ Pins.idle with nmiEdge := true, imaskLow := true }] })
    (fun t => t.nmiPending && t.pc == 0x9001#16) = true := by decide
theorem test_bus_master_writes :
    nextIs (step { setUp with pins := { Pins.idle with breqLow := true },
                              schedule := [{ Pins.idle with breqLow := true, master := [.write 0x002000#24 0x5A#8] }] })
    (fun t => t.mem.byteAt 0x2000 == some 0x5A#8 && backLow t && stopLow t && t.pc == 0x9000#16) = true := by decide
/-- Between the bytes of a word (R69), between the read and the write of EX A,[HL] (R78). -/
theorem test_word_torn_by_the_bus_master :
    nextIs (exec (.ldBaMAbs 0x2000#16) (given { tst with bus := [quietCycle, writing 0x002001#24 0x5A#8] }
      [(0x2000, 0x11#8), (0x2001, 0x22#8)])) (fun t => t.a == 0x11#8 && t.b == 0x5A#8) = true := by decide
theorem test_exchange_overwrites_the_bus_master :
    nextIs (exec .exAMHl (given { tst with h := 0x20#8, a := 0x11#8, bus := [quietCycle, writing 0x002000#24 0x5A#8] }
      [(0x2000, 0x22#8)])) (fun t => t.a == 0x22#8 && t.mem.byteAt 0x2000 == some 0x11#8 && t.trace.length == 3) = true := by
  decide
/-- No bus master inside an entry (R671): only the break-point before the first push is open. -/
theorem test_entry_is_locked :
    nextIs (step (busy [writing 0x003000#24 0x01#8, writing 0x003000#24 0x02#8, writing 0x003000#24 0x03#8]
      { setUp with nmiPending := true })) (fun t => t.mem.byteAt 0x3000 == some 0x01#8 && t.pc == 0x0140#16) = true := by
  decide
/-- Behind another entry that break-point is closed too (R656, R671): IACK stays LOW until a sampling point takes nothing. -/
theorem test_entry_behind_an_entry_is_sealed :
    nextIs (exceptionEntry .irq3 { setUp with pins := { Pins.idle with vector3 := 0x0A#8 } } |> conclude) (fun t =>
      t.iackLow && nextIs (step (busy [writing 0x003000#24 0x01#8] { t with nmiPending := true }))
        (fun u => u.mem.byteAt 0x3000 == none && u.pc == 0x0140#16 && u.iackLow)) = true := by decide
/-- The first instruction of the handler: IACK is HIGH, the bus is open (R655, R716). -/
theorem test_handler_opens_the_bus :
    nextIs (step (busy [writing 0x003000#24 0x01#8] (given { tst with iackLow := true } [(0x1000, 0xFF#8)])))
      (fun t => t.mem.byteAt 0x3000 == some 0x01#8 && !t.iackLow) = true := by decide
/-- INT is in the exception processing status inside (R664, R702), and its bus stays open (R671). -/
theorem test_int_faults_in_the_exception_status :
    faultIs (step (given { tst with pc := 0x1000#16 } [(0x1000, 0xFC#8), (0x1001, 0x20#8)]))
      (fun f => f.state.status == .exception && f.state.sp == 0xEFFD#16) = true := by decide
/-- A reset between the two bytes of a store (R704, D31). -/
theorem test_reset_inside_a_store :
    nextIs (step (busy [quietCycle, quietCycle, quietCycle, quietCycle, cutCycle]
      (given { tst with ix := 0x1234#16 } [(0x1000, 0xBE#8), (0x1001, 0x00#8), (0x1002, 0x20#8)])))
    (fun t => t.status == .reset && t.mem.byteAt 0x2000 == some 0x34#8 && t.mem.byteAt 0x2001 == none &&
      t.sc == 0xC0#8) = true := by decide
/-- An I/O read gives the device's byte, an I/O write goes to the device (D8). -/
theorem test_io_read_of_a_supplied_byte :
    nextIs (exec .ldAMHl { mapped with h := 0x21#8, l := 0xFF#8, bus := [supplying 0x5A#8] })
    (fun t => t.a == 0x5A#8 && t.mem == []) = true := by decide
theorem test_io_read_of_the_device_function :
    exec .ldAMHl { mapped with h := 0x21#8 } =
      .next { mapped with h := 0x21#8, a := Config.device [] 0x002100#24,
                          trace := [.read 0x002100#24 (Config.device [] 0x002100#24)] } := rfl
theorem test_io_write_is_seen_in_the_trace :
    nextIs (exec .ldMHlA { mapped with h := 0x21#8, a := 0x5A#8 })
    (fun t => t.mem == [] && t.trace == [.write 0x002100#24 0x5A#8]) = true := by decide
/-- A factor is looked at before BREQ (R656, log 19). -/
theorem test_factor_before_bus_release :
    nextIs (step { asking (fun p => { p with breqLow := true, irq3Low := true }) 0x00#8 with status := .run })
    (fun t => t.status == .run && t.pc == 0x0500#16) = true := by decide
/-- How a run ends (R735). -/
theorem test_run_halts :
    (run 5 (given { tst with sc := 0xC0#8 } [(0x1000, 0xCE#8), (0x1001, 0xAE#8)])).1 = .halted := by decide
theorem test_run_faults_with_U7 : (run 5 tst).1 = .fault 7 := by decide
theorem test_run_faults_with_U3 :
    (run 5 (onModel .model0 (given tst [(0x1000, 0xCE#8), (0x1001, 0xD8#8)]))).1 = .fault 3 := by decide
theorem test_run_faults_with_U4 :
    (run 5 (onModel .model0 (given tst [(0x1000, 0xA5#8)]))).1 = .fault 4 := by decide
theorem test_run_budget : (run 3 (given tst [(0x1000, 0xF1#8), (0x1001, 0xFF#8)])).1 = .budget := by decide
theorem test_unassigned_opcode_faults : 
    faultIs (step (given tst [(0x1000, 0x7C#8)])) (fun f => f.entry == 1 && f.state.pc == 0x1000#16) = true := by decide
theorem test_unwritten_byte_faults : faultIs (step (given tst [(0x1000, 0x45#8)]))
    (fun f => f == .unwrittenByte 0x000000#24 f.state && f.state.pc == 0x1001#16) = true := by decide
/-- What the step did before the fault stays (R735): the store of U10. -/
theorem test_store_over_the_next_byte_faults :
    faultIs (step (given { tst with h := 0x10#8, l := 0x01#8, a := 0x5A#8 } [(0x1000, 0x68#8), (0x1001, 0xFF#8)]))
    (fun f => f == .overlappedStore 0x001001#24 f.state && f.state.byteAt 0x001001#24 == some 0x5A#8) = true := by decide
/-- The frame of an NMI whose vector holds no value; the status is the exception processing one (R664, R735). -/
theorem test_fault_in_an_entry_keeps_the_frame :
    (fun r : RunEnd × State => r.1 == .fault 7 && r.2.byteAt 0x00EFFF#24 == some 0x10#8 && r.2.sp == 0xEFFD#16 &&
      r.2.status == .exception) (run 1 { tst with nmiPending := true }) = true := by decide
/-- The handler of a zero division may stand at the address behind the DIV, under its own frame (R652). -/
theorem test_zero_division_frame_over_the_handler :
    nextIs (step (given { tst with a := 0x00#8, sp := 0x1003#16 }
      [(0x0002, 0x02#8), (0x0003, 0x10#8), (0x1000, 0xCE#8), (0x1001, 0xD9#8), (0x1002, 0xFF#8)]))
    (fun t => t.pc == 0x1002#16 && t.byteAt 0x001002#24 == some 0x10#8) = true := by decide
theorem test_fetch_word_runs : nextIs (step (State.reset.withFetchWord 16 0x5AB0)) (fun t => t.a == 0x5A#8) = true := by
  decide
theorem test_core_is_the_machine : Sys2Proof.core.reset = State.reset ∧ Sys2Proof.core.step = step := ⟨rfl, rfl⟩

/-! Witnesses: for every statement with hypotheses, and for each of its clauses, a state and operands that meet them together, at boundary values of their ranges. -/

/-- A byte of the program or of data at each end of a page. -/
def withData : State :=
  given { tst with h := 0xFF#8, l := 0xFF#8, br := 0x00#8, ix := 0x0000#16, iy := 0xFFFF#16, ep := 0xFF#8, xp := 0x00#8, yp := 0xFF#8 }
    [(0x000000, 0x80#8), (0x000001, 0x7F#8), (0xFF0000, 0x01#8), (0xFFFFFF, 0xFF#8)]

theorem witness_BinaryArith8_register : ∃ n w, ∃ row ∈ arith8Rows n w, ∃ (s s1 s2 : State) (a b : Byte),
    s.flag .d = false ∧ s.flag .u = false ∧ s.uncut ∧ row.right.read s = .ok (b, s1) ∧ row.left.read s1 = .ok (a, s2) :=
  ⟨0x00#8, 0x0000#16, arith .addAA .add (.reg .a) (.reg .a), by decide, { tst with a := 0xFF#8 }, _, _, 0xFF#8, 0xFF#8,
    rfl, rfl, uncut_quiet rfl, rfl, rfl⟩
theorem witness_BinaryArith8_memory : ∃ n w, ∃ row ∈ arith8Rows n w, ∃ (s s1 s2 : State) (a b : Byte),
    s.flag .d = false ∧ s.flag .u = false ∧ s.uncut ∧ row.right.read s = .ok (b, s1) ∧ row.left.read s1 = .ok (a, s2) :=
  ⟨0x00#8, 0x0000#16, arith .sbcMHlMIy .sbc (.mem .hl) (.mem .iy), by decide, withData, _, _, 0xFF#8, 0xFF#8,
    rfl, rfl, uncut_quiet rfl, rfl, rfl⟩
theorem witness_BinaryArith8_bus_master : ∃ n w, ∃ row ∈ arith8Rows n w, ∃ (s s1 s2 : State) (a b : Byte),
    s.flag .d = false ∧ s.flag .u = false ∧ s.uncut ∧ row.right.read s = .ok (b, s1) ∧ row.left.read s1 = .ok (a, s2) ∧
    s.byteAt (MemOp.hl.ea s) ≠ some a :=
  ⟨0x00#8, 0x0000#16, arith .addMHlA .add (.mem .hl) (.reg .a), by decide,
    { withData with bus := [writing 0xFFFFFF#24 0x5A#8, quietCycle] }, _, _, 0x5A#8, 0x00#8,
    rfl, rfl, by unfold State.uncut; decide, rfl, rfl, by decide⟩
theorem witness_DecimalArith8 : ∃ n w, ∃ row ∈ arith8Rows n w, ∃ (s s1 s2 : State) (a b : Byte),
    s.flag .d = true ∧ s.flag .u = false ∧ decimalByte a ∧ decimalByte b ∧
    s.uncut ∧ row.right.read s = .ok (b, s1) ∧ row.left.read s1 = .ok (a, s2) :=
  ⟨0x99#8, 0x0000#16, arith (.adcAImm 0x99#8) .adc (.reg .a) (.imm 0x99#8), by decide,
    { tst with a := 0x99#8, sc := 0x12#8 }, _, _, 0x99#8, 0x99#8, rfl, rfl, by unfold decimalByte; decide,
    by unfold decimalByte; decide, uncut_quiet rfl, rfl, rfl⟩
theorem witness_UnpackedArith8 : ∃ n w, ∃ row ∈ arith8Rows n w, ∃ (s s1 s2 : State) (a b : Byte),
    s.flag .d = false ∧ s.flag .u = true ∧ s.uncut ∧ row.right.read s = .ok (b, s1) ∧ row.left.read s1 = .ok (a, s2) :=
  ⟨0x00#8, 0xFFFF#16, negation (.negMBr 0x00#8) (.mem (.br 0x00#8)), by decide, { withData with sc := 0x20#8 },
    _, _, 0x00#8, 0x01#8, rfl, rfl, uncut_quiet rfl, rfl, rfl⟩
theorem witness_UnpackedDecimalArith8 : ∃ n w, ∃ row ∈ arith8Rows n w, ∃ (s s1 s2 : State) (a b : Byte),
    s.flag .d = true ∧ s.flag .u = true ∧ a.toNat % 16 ≤ 9 ∧ b.toNat % 16 ≤ 9 ∧
    s.uncut ∧ row.right.read s = .ok (b, s1) ∧ row.left.read s1 = .ok (a, s2) :=
  ⟨0x00#8, 0x0000#16, arith .subAB .sub (.reg .a) (.reg .b), by decide,
    { tst with a := 0xF0#8, b := 0xF9#8, sc := 0x30#8 }, _, _, 0xF0#8, 0xF9#8, rfl, rfl, by decide, by decide, uncut_quiet rfl, rfl, rfl⟩
theorem witness_NonBcdArith8_packed : ∃ n w, ∃ row ∈ arith8Rows n w, ∃ (s s1 s2 : State) (a b : Byte),
    s.flag .d = true ∧ (s.flag .u = false ∧ ¬(decimalByte a ∧ decimalByte b)) ∧
    s.uncut ∧ row.right.read s = .ok (b, s1) ∧ row.left.read s1 = .ok (a, s2) :=
  ⟨0x00#8, 0x0000#16, arith .addAB .add (.reg .a) (.reg .b), by decide,
    { tst with a := 0x9A#8, b := 0x00#8, sc := 0x10#8 }, _, _, 0x9A#8, 0x00#8, rfl, ⟨rfl, by unfold decimalByte; decide⟩,
    uncut_quiet rfl, rfl, rfl⟩
theorem witness_NonBcdArith8_unpacked : ∃ n w, ∃ row ∈ arith8Rows n w, ∃ (s s1 s2 : State) (a b : Byte),
    s.flag .d = true ∧ (s.flag .u = true ∧ ¬(a.toNat % 16 ≤ 9 ∧ b.toNat % 16 ≤ 9)) ∧
    s.uncut ∧ row.right.read s = .ok (b, s1) ∧ row.left.read s1 = .ok (a, s2) :=
  ⟨0x00#8, 0x0000#16, arith .addAB .add (.reg .a) (.reg .b), by decide,
    { tst with a := 0x0A#8, b := 0x09#8, sc := 0x30#8 }, _, _, 0x0A#8, 0x09#8, rfl, ⟨rfl, by decide⟩, uncut_quiet rfl, rfl, rfl⟩
theorem witness_Compare8 : ∃ n m w, ∃ row ∈ compare8Rows n m w, ∃ (s s1 s2 : State) (a b : Byte),
    row.src.read s = .ok (b, s1) ∧ (held row.dst).read s1 = .ok (a, s2) :=
  ⟨0xFF#8, 0xFF#8, 0xFFFF#16, ⟨.cpMHlMIx, .mem .hl, .mem .ix⟩, by decide, withData, _, _, 0xFF#8, 0x80#8, rfl, rfl⟩
theorem witness_IncDec8_inc : ∃ n, ∃ row ∈ inc8Rows n, ∃ (s s1 : State) (x : Byte),
    s.uncut ∧ (held row.loc).read s = .ok (x, s1) :=
  ⟨0x00#8, ⟨.incMHl, .mem .hl⟩, by decide, withData, _, 0xFF#8, uncut_quiet rfl, rfl⟩
theorem witness_IncDec8_dec : ∃ n, ∃ row ∈ dec8Rows n, ∃ (s s1 : State) (x : Byte),
    s.uncut ∧ (held row.loc).read s = .ok (x, s1) :=
  ⟨0x00#8, ⟨.decBr, .reg .br⟩, by decide, withData, _, 0x00#8, uncut_quiet rfl, rfl⟩
theorem witness_Multiply_model1 : ∃ s : State, s.cfg.model = .model1 ∧ s.l = 0xFF#8 ∧ s.a = 0xFF#8 :=
  ⟨onModel .model1 { tst with l := 0xFF#8, a := 0xFF#8 }, rfl, rfl, rfl⟩
theorem witness_Multiply_model3 : ∃ s : State, s.cfg.model = .model3 ∧ s.l = 0x00#8 :=
  ⟨{ tst with l := 0x00#8 }, rfl, rfl⟩
theorem witness_Divide_quotient_255 : ∃ s : State, s.cfg.model = .model3 ∧ s.a ≠ 0#8 ∧ s.hl.toNat / s.a.toNat = 255 :=
  ⟨{ tst with h := 0x01#8, l := 0xFF#8, a := 0x02#8 }, rfl, by decide, by decide⟩
theorem witness_Divide_quotient_256 : ∃ s : State, s.cfg.model = .model1 ∧ s.a ≠ 0#8 ∧ s.hl.toNat / s.a.toNat = 256 :=
  ⟨onModel .model1 { tst with h := 0x01#8, l := 0x00#8, a := 0x01#8 }, rfl, by decide, by decide⟩
theorem witness_DivideByZero_minimum : ∃ (s t : State) (v : Word), s.cfg.model = .model3 ∧ s.a = 0#8 ∧
    s.uncut ∧ vectorIs (pushed (exceptionFrame (s.withNVCZ true true false false))
      (acknowledged (locked ((s.withNVCZ true true false false).setZdivPending false)))) 2#8 v t :=
  ⟨setUp, _, 0x0300#16, rfl, rfl, uncut_quiet rfl, _, _, _, rfl, rfl, rfl⟩
theorem witness_DivideByZero_maximum : ∃ (s t : State) (v : Word), s.cfg.maxMode = true ∧ s.a = 0#8 ∧
    s.uncut ∧ vectorIs (pushed (exceptionFrame (s.withNVCZ true true false false))
      (acknowledged (locked ((s.withNVCZ true true false false).setZdivPending false)))) 2#8 v t :=
  ⟨maximum setUp, _, 0x0300#16, rfl, rfl, uncut_quiet rfl, _, _, _, rfl, rfl, rfl⟩
theorem witness_Logic8 : ∃ n m w, ∃ row ∈ logic8Rows n m w, ∃ (s s1 s2 : State) (a b : Byte),
    s.uncut ∧ row.right.read s = .ok (b, s1) ∧ row.left.read s1 = .ok (a, s2) :=
  ⟨0x00#8, 0xFF#8, 0x0000#16, logical .xorMHlMIx .xor (.mem .hl) (.mem .ix), by decide, withData, _, _, 0xFF#8, 0x80#8,
    uncut_quiet rfl, rfl, rfl⟩
theorem witness_BitTest : ∃ n m, ∃ row ∈ bitTestRows n m, ∃ (s s1 s2 : State) (a b : Byte),
    row.src.read s = .ok (b, s1) ∧ (held row.dst).read s1 = .ok (a, s2) :=
  ⟨0x80#8, 0x00#8, ⟨.bitMHlImm 0x80#8, .mem .hl, .imm 0x80#8⟩, by decide, withData, _, _, 0xFF#8, 0x80#8, rfl, rfl⟩
theorem witness_Complement : ∃ n, ∃ row ∈ complementRows n, ∃ (s s1 : State) (x : Byte),
    s.uncut ∧ (held row.loc).read s = .ok (x, s1) :=
  ⟨0x00#8, ⟨.cplMHl, .mem .hl⟩, by decide, withData, _, 0xFF#8, uncut_quiet rfl, rfl⟩
theorem witness_Load8_memory : ∃ n m w, ∃ row ∈ load8Rows n m w, ∃ (s s1 : State) (v : Byte),
    WellFormed s.cfg.model row.instr ∧ s.uncut ∧ row.src.read s = .ok (v, s1) :=
  ⟨0x80#8, 0x00#8, 0x0000#16, ⟨.ldMHlMIxL, .mem .hl, .mem .ixl⟩, by decide, { withData with l := 0x01#8 }, _, 0x7F#8, rfl, uncut_quiet rfl, rfl⟩
theorem witness_Load8_expansion : ∃ n m w, ∃ row ∈ load8Rows n m w, ∃ (s s1 : State) (v : Byte),
    WellFormed s.cfg.model row.instr ∧ s.uncut ∧ row.src.read s = .ok (v, s1) :=
  ⟨0xFF#8, 0x00#8, 0x0000#16, ⟨.ldNbImm 0xFF#8, .reg .nb, .imm 0xFF#8⟩, by decide, onModel .model2 tst, _, 0xFF#8, rfl, uncut_quiet rfl, rfl⟩
theorem witness_Load8_sc : ∃ n m w, ∃ row ∈ load8Rows n m w, ∃ (s s1 : State) (v : Byte),
    WellFormed s.cfg.model row.instr ∧ s.uncut ∧ row.src.read s = .ok (v, s1) :=
  ⟨0x00#8, 0x00#8, 0x0000#16, ⟨.ldScA, .reg .sc, .reg .a⟩, by decide, onModel .model0 { tst with a := 0xFF#8 }, _, 0xFF#8, rfl, uncut_quiet rfl, rfl⟩
theorem witness_Exchange_memory : ∃ (s s1 : State) (m : Byte), s.uncut ∧
    readByte s (MemOp.hl.ea s) = .ok (m, s1) :=
  ⟨withData, _, 0xFF#8, uncut_quiet rfl, rfl⟩
theorem witness_Exchange_ba : ∃ row, row ∈ exchangeBaRows := ⟨⟨.exBaSp, .sp⟩, by decide⟩
theorem witness_Swap : ∃ row ∈ swapRows, ∃ (s s1 : State) (x : Byte),
    s.uncut ∧ (held row.loc).read s = .ok (x, s1) :=
  ⟨⟨.swapMHl, .mem .hl⟩, by decide, withData, _, 0xFF#8, uncut_quiet rfl, rfl⟩
theorem witness_Load16_page_end : ∃ n w, ∃ row ∈ load16Rows n w, ∃ (s s1 : State) (v : Word),
    s.uncut ∧ row.src.read s = .ok (v, s1) :=
  ⟨0x00#8, 0x0000#16, ⟨.ldMIxHl, .mem .ix, .reg .hl⟩, by decide, { withData with ix := 0xFFFF#16 }, _, 0xFFFF#16, uncut_quiet rfl, rfl⟩
theorem witness_Load16_read : ∃ n w, ∃ row ∈ load16Rows n w, ∃ (s s1 : State) (v : Word),
    s.uncut ∧ row.src.read s = .ok (v, s1) :=
  ⟨0x00#8, 0x0000#16, ⟨.ldBaMHl, .reg .ba, .mem .hl⟩, by decide, withData, _, 0x01FF#16, uncut_quiet rfl, rfl⟩
theorem witness_Arith16 : ∃ w, ∃ row ∈ arith16Rows w, ∃ (s s1 : State) (b : Word), row.src.read s = .ok (b, s1) :=
  ⟨0xFFFF#16, ⟨.addSpImm 0xFFFF#16, .add, .sp, .imm 0xFFFF#16⟩, by decide, { tst with sp := 0x0001#16 }, _, 0xFFFF#16, rfl⟩
theorem witness_Compare16 : ∃ w, ∃ row ∈ compare16Rows w, ∃ (s s1 : State) (b : Word), row.right.read s = .ok (b, s1) :=
  ⟨0x8000#16, ⟨.cpHlImm 0x8000#16, .hl, .imm 0x8000#16⟩, by decide, tst, _, 0x8000#16, rfl⟩
theorem witness_IncDec16 : (∃ row, row ∈ inc16Rows) ∧ (∃ row, row ∈ dec16Rows) :=
  ⟨⟨⟨.incSp, .sp⟩, by decide⟩, ⟨⟨.decBa, .ba⟩, by decide⟩⟩
theorem witness_Shifts : ∃ n, ∃ row ∈ shiftRows n, ∃ (s s1 : State) (x : Byte),
    s.uncut ∧ (held row.loc).read s = .ok (x, s1) :=
  ⟨0x00#8, ⟨.rrMBr 0x00#8, .rr, .mem (.br 0x00#8)⟩, by decide, withData, _, 0x01#8, uncut_quiet rfl, rfl⟩
theorem witness_Push_ale : ∃ row ∈ pushRows, ∃ s : State, WellFormed s.cfg.model row.instr ∧ s.uncut :=
  ⟨⟨.pushAle, [.word .ba, .word .hl, .word .ix, .word .iy, .byte .br, .byte .ep, .byte .xp, .byte .yp]⟩, by decide,
    onModel .model2 { tst with sp := 0x0000#16 }, rfl, uncut_quiet rfl⟩
theorem witness_Push_model0 : ∃ row ∈ pushRows, ∃ s : State, WellFormed s.cfg.model row.instr ∧ s.uncut :=
  ⟨⟨.pushSc, [.byte .sc]⟩, by decide, onModel .model0 { tst with sp := 0x0000#16 }, rfl, uncut_quiet rfl⟩
theorem witness_Pop_wraps : ∃ row ∈ popRows, ∃ (s t : State) (bytes : List Byte),
    WellFormed s.cfg.model row.instr ∧ bytes.length = itemsSize row.items ∧ stackHolds s bytes t :=
  ⟨⟨.popBa, [.word .ba]⟩, by decide, given { tst with sp := 0xFFFF#16 } [(0x0000, 0x12#8), (0xFFFF, 0x34#8)],
    _, [0x34#8, 0x12#8], rfl, rfl, _, rfl, _, rfl, rfl⟩
theorem witness_Pop_ip : ∃ row ∈ popRows, ∃ (s t : State) (bytes : List Byte),
    WellFormed s.cfg.model row.instr ∧ bytes.length = itemsSize row.items ∧ stackHolds s bytes t :=
  ⟨⟨.popIp, [.byte .yp, .byte .xp]⟩, by decide, given tst [(0xF000, 0x5A#8), (0xF001, 0x23#8)], _,
    [0x5A#8, 0x23#8], rfl, rfl, _, rfl, _, rfl, rfl⟩
theorem witness_Jumps : ∃ n w, ∃ row ∈ jumpRows n w, ∃ s : State, conditionHolds s row.cond = true :=
  ⟨0x80#8, 0x8000#16, ⟨.jrsNf3 0x80#8, .nf3, 0xFF80#16⟩, by decide, tst, rfl⟩
theorem witness_Jumps_not_taken : ∃ n w, ∃ row ∈ jumpRows n w, ∃ s : State, conditionHolds s row.cond = false :=
  ⟨0x7F#8, 0x7FFF#16, ⟨.jrlC 0x7FFF#16, .c, 0x7FFF#16⟩, by decide, tst, rfl⟩
theorem witness_DecrementJump : (∃ s : State, s.b = 0#8 ∧ s.b ≠ 1#8) ∧ (∃ s : State, s.b = 1#8) :=
  ⟨⟨tst, rfl, by decide⟩, ⟨{ tst with b := 1#8 }, rfl⟩⟩
theorem witness_JumpIndirect : ∃ (s t : State) (kk : Byte) (v : Word), vectorIs s kk v t :=
  ⟨given tst [(0x0000FF, 0x34#8), (0x000100, 0x12#8)], _, 0xFF#8, 0x1234#16, _, _, _, rfl, rfl, rfl⟩
theorem witness_Calls_taken : ∃ n w, ∃ row ∈ callRows n w, ∃ s : State,
    conditionHolds s row.cond = true ∧ s.uncut :=
  ⟨0x80#8, 0x8000#16, ⟨.carsGe 0x80#8, .ge, 0xFF80#16⟩, by decide, maximum { tst with sp := 0x0000#16 }, rfl,
    uncut_quiet rfl⟩
theorem witness_Calls_not_taken : ∃ n w, ∃ row ∈ callRows n w, ∃ s : State, conditionHolds s row.cond = false :=
  ⟨0x7F#8, 0x7FFF#16, ⟨.carlZ 0x7FFF#16, .z, 0x7FFF#16⟩, by decide, tst, rfl⟩
theorem witness_CallIndirect : ∃ (s u t : State) (hhll : Word) (lo hi : Byte), s.uncut ∧
    readByte (pushed (callFrame s) s) (dataAddr s s.ep hhll) = .ok (lo, u) ∧
    readByte u (dataAddr s s.ep (hhll + 1#16)) = .ok (hi, t) :=
  ⟨withData, _, _, 0xFFFF#16, 0xFF#8, 0x01#8, uncut_quiet rfl, rfl, rfl⟩
theorem witness_Returns_minimum : ∃ (s t : State) (lo hi : Byte), s.cfg.maxMode = false ∧ stackHolds s [lo, hi] t :=
  ⟨given tst [(0xF000, 0xFF#8), (0xF001, 0xFF#8)], _, 0xFF#8, 0xFF#8, rfl, _, rfl, _, rfl, rfl⟩
theorem witness_Returns_maximum : ∃ (s t : State) (lo hi bank : Byte),
    s.cfg.maxMode = true ∧ stackHolds s [lo, hi, bank] t :=
  ⟨given (maximum tst) [(0xF000, 0x03#8), (0xF001, 0x90#8), (0xF002, 0xFF#8)], _, 0x03#8, 0x90#8, 0xFF#8, rfl,
    _, rfl, _, rfl, _, rfl, rfl⟩
theorem witness_ReturnFromException_minimum : ∃ (s t : State) (sc lo hi : Byte),
    s.cfg.maxMode = false ∧ stackHolds s [sc, lo, hi] t :=
  ⟨given tst [(0xF000, 0xFF#8), (0xF001, 0x03#8), (0xF002, 0x90#8)], _, 0xFF#8, 0x03#8, 0x90#8, rfl,
    _, rfl, _, rfl, _, rfl, rfl⟩
theorem witness_ReturnFromException_maximum : ∃ (s t : State) (sc lo hi bank : Byte),
    s.cfg.maxMode = true ∧ stackHolds s [sc, lo, hi, bank] t :=
  ⟨given (maximum tst) [(0xF000, 0x00#8), (0xF001, 0x03#8), (0xF002, 0x90#8), (0xF003, 0x01#8)], _, 0x00#8, 0x03#8,
    0x90#8, 0x01#8, rfl, _, rfl, _, rfl, _, rfl, _, rfl, rfl⟩
theorem witness_SoftInterrupt : ∃ (s t : State) (kk : Byte) (v : Word), s.uncut ∧
    vectorIs (pushed (exceptionFrame s) (s.setStatus .exception)) kk v t :=
  ⟨maximum setUp, _, 0x0A#8, 0x0500#16, uncut_quiet rfl, _, _, _, rfl, rfl, rfl⟩
/-! Witnesses of the frames: the instructions do answer a next state. -/

theorem witness_CallIndirect_fault : ∃ (s : State) (hhll : Word) (f : Fault), s.bus = [] ∧
    readByte (pushed (callFrame s) s) (dataAddr s s.ep hhll) = .error (.fault f) :=
  ⟨tst, 0x3000#16, _, rfl, rfl⟩
theorem witness_SoftInterrupt_fault : ∃ (s : State) (kk : Byte) (f : Fault), s.bus = [] ∧
    readByte (pushed (exceptionFrame s) (s.setStatus .exception)) (vectorAddr kk 0) = .error (.fault f) :=
  ⟨tst, 0x20#8, _, rfl, rfl⟩
theorem witness_FrameArith8 : ∃ n w, ∃ row ∈ arith8Rows n w, ∃ s t : State, s.uncut ∧ exec row.instr s = .next t :=
  ⟨0x00#8, 0x0000#16, arith .addMHlMIx .add (.mem .hl) (.mem .ix), by decide, withData, quietly rfl (by decide)⟩
theorem witness_FrameArith8_decimal : ∃ n w, ∃ row ∈ arith8Rows n w, ∃ s t : State,
    s.flag .d = true ∧ s.uncut ∧ exec row.instr s = .next t :=
  ⟨0x00#8, 0x0000#16, arith .addAB .add (.reg .a) (.reg .b), by decide, { tst with a := 0x9A#8, sc := 0x10#8 }, _, rfl, uncut_quiet rfl, rfl⟩
theorem witness_FrameLogic8 : ∃ n m w, ∃ row ∈ logic8Rows n m w, ∃ s t : State, s.uncut ∧ exec row.instr s = .next t :=
  ⟨0x00#8, 0x00#8, 0x0000#16, logical .andMHlA .and (.mem .hl) (.reg .a), by decide, withData, quietly rfl (by decide)⟩
theorem witness_FrameComplement : ∃ n, ∃ row ∈ complementRows n, ∃ s t : State, s.uncut ∧ exec row.instr s = .next t :=
  ⟨0x00#8, ⟨.cplMHl, .mem .hl⟩, by decide, withData, quietly rfl (by decide)⟩
theorem witness_FrameIncDec8 : ∃ n, ∃ row ∈ inc8Rows n ++ dec8Rows n, ∃ s t : State, s.uncut ∧ exec row.instr s = .next t :=
  ⟨0x00#8, ⟨.decMBr 0x00#8, .mem (.br 0x00#8)⟩, by decide, withData, quietly rfl (by decide)⟩
theorem witness_FrameShift : ∃ n, ∃ row ∈ shiftRows n, ∃ s t : State, s.uncut ∧ exec row.instr s = .next t :=
  ⟨0x00#8, ⟨.slaMHl, .sla, .mem .hl⟩, by decide, withData, quietly rfl (by decide)⟩
theorem witness_FrameLoad8 : ∃ n m w, ∃ row ∈ load8Rows n m w, ∃ s t : State, s.uncut ∧ exec row.instr s = .next t :=
  ⟨0x00#8, 0x00#8, 0x0000#16, ⟨.ldMHlMIx, .mem .hl, .mem .ix⟩, by decide, withData, quietly rfl (by decide)⟩
theorem witness_FrameSwap : ∃ row ∈ swapRows, ∃ s t : State, s.uncut ∧ exec row.instr s = .next t :=
  ⟨⟨.swapMHl, .mem .hl⟩, by decide, withData, quietly rfl (by decide)⟩
theorem witness_FrameCompare8 : ∃ n m w, ∃ row ∈ compare8Rows n m w, ∃ s t : State, s.uncut ∧ exec row.instr s = .next t :=
  ⟨0x00#8, 0x00#8, 0x0000#16, ⟨.cpMHlMIx, .mem .hl, .mem .ix⟩, by decide, withData, quietly rfl (by decide)⟩
theorem witness_FrameCompare16 : ∃ w, ∃ row ∈ compare16Rows w, ∃ s t : State, s.uncut ∧ exec row.instr s = .next t :=
  ⟨0xFFFF#16, ⟨.cpSpImm 0xFFFF#16, .sp, .imm 0xFFFF#16⟩, by decide, tst, quietly rfl (by decide)⟩
theorem witness_FrameBit : ∃ n m, ∃ row ∈ bitTestRows n m, ∃ s t : State, s.uncut ∧ exec row.instr s = .next t :=
  ⟨0x00#8, 0x00#8, ⟨.bitMHlImm 0x00#8, .mem .hl, .imm 0x00#8⟩, by decide, withData, quietly rfl (by decide)⟩
theorem witness_FrameLoad16 : ∃ n w, ∃ row ∈ load16Rows n w, ∃ s t : State, s.uncut ∧ exec row.instr s = .next t :=
  ⟨0xFF#8, 0xFFFF#16, ⟨.ldMSpDdIy 0xFF#8, .mem (.spd 0xFF#8), .reg .iy⟩, by decide, { tst with sp := 0x0000#16 },
    quietly rfl (by decide)⟩
theorem witness_FrameArith16 : ∃ w, ∃ row ∈ arith16Rows w, ∃ s t : State, s.uncut ∧ exec row.instr s = .next t :=
  ⟨0x0000#16, ⟨.sbcBaBa, .sbc, .ba, .reg .ba⟩, by decide, { tst with sc := 0x02#8 }, quietly rfl (by decide)⟩
theorem witness_FrameIncDec16 : ∃ row ∈ inc16Rows ++ dec16Rows, ∃ s t : State, s.uncut ∧ exec row.instr s = .next t :=
  ⟨⟨.decSp, .sp⟩, by decide, { tst with sp := 0x0000#16 }, quietly rfl (by decide)⟩
theorem witness_FrameFixedOperands_simple : ∀ i ∈ [Instr.exAB, Instr.exAMHl, Instr.pack, Instr.upck, Instr.sep,
    Instr.mlt, Instr.exBaSp, Instr.orScImm 0xFF#8], nextIs (exec i withData) (fun _ => true) = true := by decide
theorem witness_FrameFixedOperands_div : ∃ s t : State, s.a ≠ 0#8 ∧ exec .div s = .next t :=
  ⟨{ tst with a := 0xFF#8 }, _, by decide, rfl⟩
theorem witness_FrameFixedOperands_div_zero : ∃ s t : State, s.a = 0#8 ∧ s.uncut ∧ exec .div s = .next t :=
  ⟨setUp, _, rfl, uncut_quiet rfl, rfl⟩
theorem witness_FrameStack_push : ∃ row ∈ pushRows, ∃ s t : State, s.uncut ∧ exec row.instr s = .next t :=
  ⟨⟨.pushAll, [.word .ba, .word .hl, .word .ix, .word .iy, .byte .br]⟩, by decide, { tst with sp := 0x0008#16 },
    quietly rfl (by decide)⟩
theorem witness_FrameStack_pop : ∃ row ∈ popRows, ∃ s t : State, s.uncut ∧ exec row.instr s = .next t :=
  ⟨⟨.popSc, [.byte .sc]⟩, by decide, given { tst with sp := 0xFFFF#16 } [(0xFFFF, 0xFF#8)], quietly rfl (by decide)⟩
theorem witness_FrameBranch_jump : ∃ n w, ∃ row ∈ jumpRows n w, ∃ s t : State, s.uncut ∧ exec row.instr s = .next t :=
  ⟨0x80#8, 0x0000#16, ⟨.jrs 0x80#8, .always, 0xFF80#16⟩, by decide, tst, quietly rfl (by decide)⟩
theorem witness_FrameBranch_call : ∃ n w, ∃ row ∈ callRows n w, ∃ s t : State, s.uncut ∧ exec row.instr s = .next t :=
  ⟨0x00#8, 0x8000#16, ⟨.carl 0x8000#16, .always, 0x8000#16⟩, by decide, maximum { tst with sp := 0x0001#16 }, quietly rfl (by decide)⟩
theorem witness_FrameBranch_fixed : ∀ i ∈ [Instr.djrNz 0x80#8, Instr.jpHl, Instr.jpVec 0x0A#8, Instr.callMAbs 0x0002#16,
    Instr.intVec 0x0A#8], nextIs (exec i setUp) (fun _ => true) = true := by decide
theorem witness_FrameBranch_returns : ∀ i ∈ [Instr.ret, Instr.rets, Instr.rete],
    nextIs (exec i (given tst [(0xF000, 0x00#8), (0xF001, 0xFF#8), (0xF002, 0xFF#8)])) (fun _ => true) = true := by decide

/-! Witnesses of the encoding statements, the step, the invariant and the memory. -/

theorem witness_EncodeDecode_shortest : ∃ bytes i rest, decode bytes = .ok (i, rest) :=
  ⟨[0x00#8], .addAA, [], rfl⟩
theorem witness_EncodeDecode_longest : ∃ bytes i rest, decode bytes = .ok (i, rest) :=
  ⟨[0xCF#8, 0x6E#8, 0xFF#8, 0xFF#8, 0x7C#8], .ldSpImm 0xFFFF#16, [0x7C#8], rfl⟩
theorem witness_UndefinedEncodings_first : ∃ (s t : State) (b : Byte), runs (latchInputs s) ∧
    bytesAt [b] (latchInputs s).pc (latchInputs s) t ∧ b.toNat = 0x7C :=
  ⟨given { tst with pc := 0xFFFF#16 } [(0x007FFF, 0x7C#8)], _, 0x7C#8, ⟨rfl, rfl, rfl, rfl⟩, ⟨_, rfl, rfl⟩, rfl⟩
theorem witness_UndefinedEncodings_afterCE : ∃ (s t : State) (b : Byte), runs (latchInputs s) ∧
    bytesAt [0xCE#8, b] (latchInputs s).pc (latchInputs s) t ∧ b.toNat ∈ unassignedCE :=
  ⟨given tst [(0x1000, 0xCE#8), (0x1001, 0xDF#8)], _, 0xDF#8, ⟨rfl, rfl, rfl, rfl⟩, ⟨_, rfl, _, rfl, rfl⟩, by decide⟩
theorem witness_UndefinedEncodings_afterCF : ∃ (s t : State) (b : Byte), runs (latchInputs s) ∧
    bytesAt [0xCF#8, b] (latchInputs s).pc (latchInputs s) t ∧
    ¬∃ r ∈ assignedCF, r.1 ≤ b.toNat ∧ b.toNat ≤ r.2 :=
  ⟨given tst [(0x1000, 0xCF#8), (0x1001, 0xFF#8)], _, 0xFF#8, ⟨rfl, rfl, rfl, rfl⟩, ⟨_, rfl, _, rfl, rfl⟩, by decide⟩
theorem witness_StepRunsDecoded_next : ∃ (s t u : State) (i : Instr), runs (latchInputs s) ∧
    fetches (latchInputs s) i u ∧ exec i (begun u i) = .next t ∧ t.status ≠ .reset ∧
    overlapped i (begun u i) t = false :=
  ⟨given { tst with pc := 0xFFFF#16 } [(0x0000, 0x05#8), (0x7FFF, 0x9F#8)], _, _, .ldScImm 0x05#8, ⟨rfl, rfl, rfl, rfl⟩,
    ⟨_, rfl, _, rfl, rfl⟩, rfl, (fun h => nomatch h), rfl⟩
theorem witness_StepRunsDecoded_overlapped : ∃ (s t u : State) (i : Instr), runs (latchInputs s) ∧
    fetches (latchInputs s) i u ∧ exec i (begun u i) = .next t ∧ t.status ≠ .reset ∧
    overlapped i (begun u i) t = true :=
  ⟨given { tst with h := 0x10#8, l := 0x01#8, a := 0x5A#8 } [(0x1000, 0x68#8), (0x1001, 0xFF#8)], _, _, .ldMHlA,
    ⟨rfl, rfl, rfl, rfl⟩, ⟨_, rfl, rfl⟩, rfl, (fun h => nomatch h), by decide⟩
theorem witness_StepRunsDecoded_fault : ∃ (s u : State) (i : Instr) (r : Fault), runs (latchInputs s) ∧
    fetches (latchInputs s) i u ∧ exec i (begun u i) = .fault r :=
  ⟨onModel .model0 (given tst [(0x1000, 0xCE#8), (0x1001, 0xD8#8)]), _, .mlt, .noMulDiv _, ⟨rfl, rfl, rfl, rfl⟩,
    ⟨_, rfl, _, rfl, rfl⟩, rfl⟩
theorem witness_StepRunsDecoded_reset : ∃ (s t u : State) (i : Instr), runs (latchInputs s) ∧
    fetches (latchInputs s) i u ∧ exec i (begun u i) = .next t ∧ t.status = .reset :=
  ⟨busy [quietCycle, cutCycle] (given tst [(0x1000, 0x68#8)]), _, _, .ldMHlA, ⟨rfl, rfl, rfl, rfl⟩, ⟨_, rfl, rfl⟩, rfl, rfl⟩
theorem witness_StepKeepsInvariant : ∃ s t : State, Inv s ∧ step s = .next t :=
  ⟨setUp, _, ⟨(rfl : setUp.mem.wf = true), (fun h => nomatch h), rfl⟩, rfl⟩
theorem witness_StepKeepsInvariant_at_reset : ∃ s t : State, Inv s ∧ s.status = .reset ∧ step s = .next t :=
  ⟨given State.reset [(0, 0x00#8), (1, 0x01#8)], _,
    ⟨(rfl : (given State.reset [(0, 0x00#8), (1, 0x01#8)]).mem.wf = true), (fun h => nomatch h), rfl⟩, rfl, rfl⟩
theorem witness_StepKeepsInvariant_fault : ∃ (s : State) (f : Fault), Inv s ∧ step s = .fault f :=
  ⟨tst, _, ⟨(rfl : tst.mem.wf = true), (fun h => nomatch h), rfl⟩, rfl⟩
theorem witness_ResetSequence_low : ∃ s : State, (latchInputs s).pins.srLow = true ∧ s.cfg.model = .model2 :=
  ⟨onModel .model2 { tst with pins := { Pins.idle with srLow := true } }, rfl, rfl⟩
theorem witness_ResetSequence_release : ∃ (s t : State) (v : Word), (latchInputs s).pins.srLow = false ∧
    s.status = .reset ∧ vectorIs (acknowledged (sealed (latchInputs s))) 0#8 v t :=
  ⟨given State.reset [(0, 0xFF#8), (1, 0xFF#8)], _, 0xFFFF#16, rfl, rfl, _, _, _, rfl, rfl, rfl⟩
theorem witness_ResetSequence_cut : ∃ (s : State) (c : BusCycle) (rest : List BusCycle), s.bus = c :: rest ∧ c.cut = true :=
  ⟨{ tst with bus := [cutCycle] }, cutCycle, [], rfl, rfl⟩
theorem witness_ResetSequence_torn : ∃ (s : State) (hhll : Word) (c d : BusCycle), s.bus = [c, d] ∧ c.master = [] ∧
    c.cut = false ∧ d.master = [] ∧ d.cut = true ∧ s.kindAt (dataAddr s s.ep hhll) = .ram :=
  ⟨{ tst with bus := [quietCycle, cutCycle] }, 0xFFFF#16, _, _, rfl, rfl, rfl, rfl, rfl, isRam rfl _⟩
theorem witness_ReadAfterWrite_byte : ∃ (s t : State) (a : Addr) (v : Byte), s.kindAt a = .ram ∧
    writeByte s a v = .ok t ∧ t.bus = [] :=
  ⟨tst, _, 0xFFFFFF#24, 0xFF#8, isRam rfl _, rfl, rfl⟩
theorem witness_ReadAfterWrite_other : ∃ (s t : State) (a b : Addr) (v : Byte), s.bus = [] ∧
    writeByte s a v = .ok t ∧ b ≠ a ∧ s.kindAt b ≠ .io :=
  ⟨tst, _, 0xFFFFFF#24, 0x000000#24, 0xFF#8, rfl, rfl, by decide, by decide⟩
theorem witness_ReadAfterWrite_rom : ∃ (s : State) (a : Addr), s.bus = [] ∧ s.kindAt a = .rom :=
  ⟨mapped, 0x000FFF#24, rfl, rfl⟩
theorem witness_ReadAfterWrite_nothing : ∃ (s : State) (a : Addr), s.bus = [] ∧ s.kindAt a = .nothing :=
  ⟨mapped, 0x002200#24, rfl, rfl⟩
theorem witness_ReadAfterWrite_word : ∃ (s t : State) (page : Byte) (a v : Word), s.bus = [] ∧
    s.kindAt (dataAddr s page a) = .ram ∧ s.kindAt (dataAddr s page (a + 1#16)) = .ram ∧ writeWord s page a v = .ok t :=
  ⟨tst, _, 0xFF#8, 0xFFFF#16, 0x1234#16, rfl, isRam rfl _, isRam rfl _, rfl⟩
theorem witness_MemoryStops_unwritten : ∃ (s u : State) (d : Option Byte) (a : Addr), busCycle s = .ok (u, d) ∧
    s.kindAt a = .ram ∧ u.byteAt a = none :=
  ⟨mapped, _, _, 0x001000#24, rfl, rfl, rfl⟩
theorem witness_MemoryStops_written_by_the_master : ∃ (s u : State) (d : Option Byte) (a : Addr) (v : Byte),
    busCycle s = .ok (u, d) ∧ s.kindAt a = .ram ∧ s.byteAt a = none ∧ u.byteAt a = some v :=
  ⟨{ mapped with bus := [writing 0x001000#24 0x5A#8] }, _, _, 0x001000#24, 0x5A#8, rfl, rfl, rfl, rfl⟩
theorem witness_MemoryStops_rom : ∃ (s u : State) (d : Option Byte) (a : Addr) (v : Byte), busCycle s = .ok (u, d) ∧
    s.kindAt a = .rom ∧ u.byteAt a = some v :=
  ⟨given mapped [(0x0FFF, 0x5A#8)], _, _, 0x000FFF#24, 0x5A#8, rfl, rfl, rfl⟩
theorem witness_MemoryStops_writeOnly : ∃ (s u : State) (d : Option Byte) (a : Addr), busCycle s = .ok (u, d) ∧
    s.kindAt a = .writeOnly :=
  ⟨mapped, _, _, 0x0020FF#24, rfl, rfl⟩
theorem witness_MemoryStops_nothing : ∃ (s u : State) (d : Option Byte) (a : Addr), busCycle s = .ok (u, d) ∧
    s.kindAt a = .nothing :=
  ⟨mapped, _, _, 0xFFFFFF#24, rfl, rfl⟩
theorem witness_MemoryStops_io : ∃ (s u : State) (d : Option Byte) (a : Addr), busCycle s = .ok (u, d) ∧
    s.kindAt a = .io ∧ d = none :=
  ⟨mapped, _, _, 0x002100#24, rfl, rfl, rfl⟩
theorem witness_MemoryStops_io_supplied : ∃ (s u : State) (d : Option Byte) (a : Addr), busCycle s = .ok (u, d) ∧
    s.kindAt a = .io ∧ d = some 0x5A#8 :=
  ⟨{ mapped with bus := [supplying 0x5A#8] }, _, _, 0x0021FF#24, rfl, rfl, rfl⟩

/-! Witnesses of the latch. -/

theorem witness_FactorPriority_schedule : ∃ (s : State) (p : Pins) (rest : List Pins), s.schedule = p :: rest ∧
    s.nmiPending = true ∧ p.nmiEdge = true :=
  ⟨{ tst with nmiPending := true, schedule := [{ Pins.idle with nmiEdge := true }] }, _, _, rfl, rfl, rfl⟩
theorem witness_FactorPriority_steady : ∃ s : State, s.schedule = [] ∧ s.pins.nmiEdge = true :=
  ⟨{ tst with pins := { Pins.idle with nmiEdge := true } }, rfl, rfl⟩
theorem witness_FactorPriority_taken : ∃ s t : State, step s = .next t ∧ t.status ≠ .reset ∧ takes (latchInputs s) .nmi :=
  ⟨{ setUp with schedule := [{ Pins.idle with nmiEdge := true }] }, _, rfl, (fun h => nomatch h), rfl, .inl rfl, rfl⟩
theorem witness_FactorPriority_not_taken : ∃ s t : State, step s = .next t ∧ t.status ≠ .reset ∧
    ¬takes (latchInputs s) .nmi ∧ (latchInputs s).nmiPending = true :=
  ⟨asking (fun p => { p with imaskLow := true }) 0x00#8 |> fun s => { s with nmiPending := true }, _, rfl,
    (fun h => nomatch h), (fun h => nomatch h.2.2), rfl⟩

/-! Witnesses of the exceptions, the round trips, standby and bus release. -/

theorem witness_ExceptionTaken_run : ∃ (s t : State) (f : Factor) (v : Word), s.status = .run ∧
    takes (latchInputs s) f ∧ (latchInputs s).uncut ∧
    vectorIs (maskedFor (pushed (exceptionFrame (latchInputs s)) (entering (unlatched (latchInputs s) f))) f)
      (vectorOf (latchInputs s) f) v t :=
  ⟨maximum { setUp with nmiPending := true, sc := 0xC0#8 }, _, .nmi, 0x0140#16, rfl,
    ⟨rfl, .inl rfl, rfl⟩, uncut_quiet rfl, _, _, _, rfl, rfl, rfl⟩
theorem witness_ExceptionTaken_halt : ∃ (s t : State) (f : Factor) (v : Word), s.status = .halt ∧
    takes (latchInputs s) f ∧ (latchInputs s).uncut ∧
    vectorIs (maskedFor (pushed (exceptionFrame (latchInputs s)) (entering (unlatched (latchInputs s) f))) f)
      (vectorOf (latchInputs s) f) v t :=
  ⟨{ asking (fun p => { p with irq3Low := true }) 0x80#8 with status := .halt }, _, .irq3, 0x0500#16, rfl,
    ⟨rfl, .inr (.inl rfl), rfl⟩, uncut_quiet rfl, _, _, _, rfl, rfl, rfl⟩
theorem witness_ExceptionTaken_nested : ∃ (s t : State) (f : Factor) (v : Word), s.status = .run ∧ s.iackLow = true ∧
    takes (latchInputs s) f ∧ (latchInputs s).uncut ∧ (∃ c rest, (latchInputs s).bus = c :: rest ∧ c.master ≠ []) ∧
    vectorIs (maskedFor (pushed (exceptionFrame (latchInputs s)) (entering (unlatched (latchInputs s) f))) f)
      (vectorOf (latchInputs s) f) v t :=
  ⟨busy [writing 0x003000#24 0x01#8] { setUp with nmiPending := true, iackLow := true }, _, .nmi, 0x0140#16, rfl, rfl,
    ⟨rfl, .inl rfl, rfl⟩, fun c (m : c ∈ [writing 0x003000#24 0x01#8]) => List.mem_singleton.1 m ▸ rfl,
    ⟨_, [], rfl, by simp [writing]⟩, _, _, _, rfl, rfl, rfl⟩
theorem witness_ExceptionTaken_sleep : ∃ (s t : State) (f : Factor) (v : Word), s.status = .sleep ∧
    takes (latchInputs s) f ∧ (latchInputs s).uncut ∧
    vectorIs (maskedFor (pushed (exceptionFrame (latchInputs s)) (entering (unlatched (latchInputs s) f))) f)
      (vectorOf (latchInputs s) f) v t :=
  ⟨{ asking (fun p => { p with irq1Low := true }) 0x00#8 with status := .sleep }, _, .irq1, 0x0700#16, rfl,
    ⟨rfl, .inr (.inr rfl), rfl⟩, uncut_quiet rfl, _, _, _, rfl, rfl, rfl⟩
theorem witness_ExceptionTaken_zero_division : ∃ (s t : State) (f : Factor) (v : Word), s.status = .run ∧
    takes (latchInputs s) f ∧ (latchInputs s).uncut ∧
    vectorIs (maskedFor (pushed (exceptionFrame (latchInputs s)) (entering (unlatched (latchInputs s) f))) f)
      (vectorOf (latchInputs s) f) v t :=
  ⟨{ setUp with zdivPending := true }, _, .zeroDivision, 0x0300#16, rfl,
    ⟨rfl, .inl rfl, rfl⟩, uncut_quiet rfl, _, _, _, rfl, rfl, rfl⟩
theorem witness_ExceptionTaken_fault : ∃ (s : State) (f : Factor) (g : Fault), takes (latchInputs s) f ∧
    (latchInputs s).bus = [] ∧ readByte (maskedFor (pushed (exceptionFrame (latchInputs s))
      (entering (unlatched (latchInputs s) f))) f) (vectorAddr (vectorOf (latchInputs s) f) 0) = .error (.fault g) :=
  ⟨{ tst with nmiPending := true }, .nmi, _, ⟨rfl, .inl rfl, rfl⟩, rfl, rfl⟩
theorem witness_HoldOff_set : ∃ (s t u : State) (i : Instr), runs (latchInputs s) ∧ fetches (latchInputs s) i u ∧
    step s = .next t ∧ t.status ≠ .reset ∧ opcodeOf i ∈ s.cfg.holdoffSet :=
  ⟨given tst [(0x1000, 0x9C#8), (0x1001, 0x00#8)], _, _, .andScImm 0x00#8, ⟨rfl, rfl, rfl, rfl⟩, ⟨_, rfl, _, rfl, rfl⟩, rfl, (fun h => nomatch h), by decide⟩
theorem witness_HoldOff_not_set : ∃ (s t u : State) (i : Instr), runs (latchInputs s) ∧ fetches (latchInputs s) i u ∧
    step s = .next t ∧ t.status ≠ .reset ∧ opcodeOf i ∉ s.cfg.holdoffSet :=
  ⟨setUp, _, _, .nop, ⟨rfl, rfl, rfl, rfl⟩, ⟨_, rfl, rfl⟩, rfl, (fun h => nomatch h), by decide⟩
theorem witness_HoldOff_keeps_nmi : ∃ t : State, t.intHoldoff = true ∧ t.zdivPending = false ∧ t.nmiPending = true :=
  ⟨{ setUp with intHoldoff := true, nmiPending := true }, rfl, rfl, rfl⟩
theorem witness_ReturnUndoesEntry_minimum : ∃ s t : State, s.bus = [] ∧ (∃ f, exceptionEntry f s = .ok t) ∧
    s.cfg.maxMode = false ∧ inRam s (belowSp s (exceptionFrame s).length) :=
  ⟨{ setUp with sp := 0x1002#16 }, _, rfl, ⟨.irq1, rfl⟩, rfl, allRam rfl _⟩
theorem witness_ReturnUndoesEntry_maximum : ∃ s t : State, s.bus = [] ∧ (∃ kk, exec (.intVec kk) s = .next t) ∧
    s.cfg.maxMode = true ∧ inRam s (belowSp s (exceptionFrame s).length) :=
  ⟨maximum setUp, _, rfl, ⟨0x0A#8, rfl⟩, rfl, allRam rfl _⟩
theorem witness_CallThenReturn_relative : ∃ n w, ∃ s t : State, s.bus = [] ∧
    (∃ row ∈ callRows n w, conditionHolds s row.cond = true ∧ exec row.instr s = .next t) ∧
    inRam s (belowSp s (callFrame s).length) :=
  ⟨0x80#8, 0x0000#16, { tst with sp := 0x0001#16 }, _, rfl, ⟨⟨.cars 0x80#8, .always, 0xFF80#16⟩, by decide, rfl, rfl⟩,
    allRam rfl _⟩
theorem witness_CallThenReturn_indirect : ∃ w, ∃ s t : State, s.bus = [] ∧ exec (.callMAbs w) s = .next t ∧
    s.cfg.maxMode = true ∧ inRam s (belowSp s (callFrame s).length) :=
  ⟨0xFFFF#16, maximum withData, _, rfl, rfl, rfl, allRam rfl _⟩
theorem witness_PushThenPop : ∃ p ∈ stackPairs, ∃ s : State, WellFormed s.cfg.model p.1.instr ∧ s.bus = [] ∧
    inRam s (belowSp s (itemsSize p.1.items)) :=
  ⟨(⟨.pushAle, [.word .ba, .word .hl, .word .ix, .word .iy, .byte .br, .byte .ep, .byte .xp, .byte .yp]⟩, .popAle),
    by decide, { withData with sp := 0x0005#16 }, rfl, rfl, allRam rfl _⟩
theorem witness_ModeFlagsKept : ∃ (i : Instr) (s t : State), (∀ n, i ∉ wholeScWriters n) ∧ s.uncut ∧
    exec i s = .next t :=
  ⟨.div, setUp, _, fun n => by simp [wholeScWriters], uncut_quiet rfl, rfl⟩
theorem witness_StandbyWaits_sleep : ∃ s : State, (latchInputs s).pins.srLow = false ∧ s.status = .sleep ∧
    pendingFactor (latchInputs s) = none :=
  ⟨{ asking (fun p => { p with irq3Low := true, breqLow := true }) 0xC0#8 with status := .sleep }, rfl, rfl, rfl⟩
theorem witness_StandbyWaits_halt : ∃ s : State, (latchInputs s).pins.srLow = false ∧
    (s.status = .halt ∧ (latchInputs s).pins.breqLow = false) ∧ pendingFactor (latchInputs s) = none :=
  ⟨{ asking (fun p => { p with irq2Low := true }) 0x80#8 with status := .halt }, rfl, ⟨rfl, rfl⟩, rfl⟩
theorem witness_StandbyWaits_ended_halt : ∃ s : State, ended s = true ∧ s.status = .halt ∧
    (latchInputs s).pins.breqLow = false :=
  ⟨{ setUp with status := .halt, schedule := [{ Pins.idle with irq1Low := true }], sc := 0xC0#8 }, by decide, rfl, rfl⟩
theorem witness_StandbyWaits_ended_sleep : ∃ s : State, ended s = true ∧ s.status = .sleep ∧
    (latchInputs s).pins.breqLow = false :=
  ⟨{ setUp with status := .sleep }, by decide, rfl, rfl⟩
theorem witness_StandbyWaits_fault : ∃ (s : State) (f : Fault), ended s = false ∧ step s = .fault f :=
  ⟨onModel .model0 (given tst [(0x1000, 0xCE#8), (0x1001, 0xD8#8)]), .noMulDiv _, by decide, rfl⟩
theorem witness_BusRelease_low : ∀ st ∈ [Status.run, Status.halt, Status.busReleased false, Status.busReleased true],
    ∃ s : State, (latchInputs s).pins.srLow = false ∧ (latchInputs s).pins.breqLow = true ∧ s.status = st ∧
      pendingFactor (latchInputs s) = none :=
  fun st _ => ⟨{ tst with pins := { Pins.idle with breqLow := true }, status := st }, rfl, rfl, rfl, rfl⟩
theorem witness_BusRelease_high : ∃ (s : State) (h : Bool), (latchInputs s).pins.srLow = false ∧
    (latchInputs s).pins.breqLow = false ∧ s.status = .busReleased h :=
  ⟨{ tst with status := .busReleased true }, true, rfl, rfl, rfl⟩
theorem witness_BusRelease_cycle : ∃ (s : State) (c : BusCycle) (rest : List BusCycle), s.bus = c :: rest ∧ c.cut = false :=
  ⟨{ tst with bus := [writing 0xFFFFFF#24 0x5A#8] }, _, [], rfl, rfl⟩
theorem witness_BusRelease_word : ∃ (s : State) (hhll : Word) (lo old new : Byte) (c d : BusCycle), s.bus = [c, d] ∧
    c.master = [] ∧ c.cut = false ∧ d.master = [.write (dataAddr s s.ep (hhll + 1#16)) new] ∧ d.cut = false ∧
    s.kindAt (dataAddr s s.ep hhll) = .ram ∧ s.kindAt (dataAddr s s.ep (hhll + 1#16)) = .ram ∧
    s.byteAt (dataAddr s s.ep hhll) = some lo ∧ s.byteAt (dataAddr s s.ep (hhll + 1#16)) = some old :=
  ⟨{ withData with bus := [quietCycle, writing 0xFF0000#24 0x5A#8] }, 0xFFFF#16, 0xFF#8, 0x01#8, 0x5A#8, _, _, rfl, rfl,
    rfl, rfl, rfl, isRam rfl _, isRam rfl _, rfl, rfl⟩
theorem witness_BusRelease_exchange : ∃ (s : State) (old new : Byte) (c d : BusCycle), s.bus = [c, d] ∧
    c.master = [] ∧ c.cut = false ∧ d.master = [.write (MemOp.hl.ea s) new] ∧ d.cut = false ∧
    s.kindAt (MemOp.hl.ea s) = .ram ∧ s.byteAt (MemOp.hl.ea s) = some old :=
  ⟨{ withData with bus := [quietCycle, writing 0xFFFFFF#24 0x5A#8] }, 0xFF#8, 0x5A#8, _, _, rfl, rfl, rfl, rfl, rfl,
    isRam rfl _, rfl⟩

end Sys2Proof.Tests
end

section
/-! Reads and writes where nothing comes from the outside (R12, R60, R66), and why an instruction stops (R123, U3, U4). -/

namespace Sys2Proof.Machine

/-! Read after write. -/

/-- A bus cycle that answers leads to `State.cycled`. -/
theorem busCycle_cycled {s u : State} {d : Option Byte} (h : busCycle s = .ok (u, d)) : u = s.cycled := by
  rcases busCycle_ok.1 h with ⟨hb, rfl, -⟩ | ⟨c, rest, hb, -, rfl, -⟩
  · exact (cycled_quiet hb).symm
  · simp only [State.cycled, hb]

/-- Where nothing comes with it, a write is the memory's answer to it and its place in the trace. -/
theorem writeByte_quiet {s : State} (q : s.bus = []) (a : Addr) (v : Byte) :
    writeByte s a v = .ok ((s.hold a v).record (.write a v)) := by
  rw [writeByte_uncut (uncut_quiet q), State.put, cycled_quiet q]

/-- ROM and absent addresses ignore a byte (D8, log 6). -/
theorem hold_ignored {s : State} {a : Addr} (h : s.kindAt a = .rom ∨ s.kindAt a = .nothing) (v : Byte) :
    s.hold a v = s := by
  rcases h with h | h <;> simp only [State.hold, h]

/-- RAM after a write to it: the byte written, and what the break-point left of every other. -/
theorem writeByte_ram_byteAt {s t : State} {a : Addr} {v : Byte} (k : s.kindAt a = .ram)
    (h : writeByte s a v = .ok t) (b : Addr) : t.byteAt b = if b = a then some v else s.cycled.byteAt b := by
  obtain ⟨u, d, hu, rfl⟩ := writeByte_ok.1 h
  have ku : u.kindAt a = .ram := (busCycle_access hu).kindAt a ▸ k
  rw [← busCycle_cycled hu]
  exact hold_byteAt u a b v ku

/-- Behind a write with which nothing came, nothing comes. -/
theorem writeByte_bus_quiet {s t : State} {a : Addr} {v : Byte} (q : s.bus = [])
    (h : writeByte s a v = .ok t) : t.bus = [] := by
  rw [writeByte_quiet q] at h
  cases h
  simpa using q

/-- Where nothing comes with it, a read gives the byte that is found. -/
theorem readByte_quiet {s : State} (q : s.bus = []) (a : Addr) (v : Byte) :
    (∃ u, readByte s a = .ok (v, u)) ↔ s.found none a = some v := by
  have hc : busCycle s = .ok (s, none) := busCycle_ok.2 (.inl ⟨q, rfl, rfl⟩)
  constructor
  · rintro ⟨u, h⟩
    obtain ⟨w, d, hw, hf, -⟩ := readByte_ok.1 h
    rw [hc] at hw
    cases hw
    exact hf
  · exact fun hf => ⟨_, readByte_ok.2 ⟨s, none, hc, hf, rfl⟩⟩

/-- What a read finds at an address that is no device's depends on the byte held there alone. -/
theorem found_congr {s t : State} {a : Addr} (hc : t.cfg = s.cfg) (hb : t.byteAt a = s.byteAt a)
    (hk : s.kindAt a ≠ .io) (d : Option Byte) : t.found d a = s.found d a := by
  have k : t.kindAt a = s.kindAt a := by unfold State.kindAt; rw [hc]
  unfold State.byteAt at hb
  unfold State.found
  rw [k]
  cases e : s.kindAt a with
  | io => exact absurd e hk
  | ram | rom => exact hb
  | writeOnly | nothing => rfl

/-- A write leaves what a read of another address gives, if that is no device's. -/
theorem readByte_writeByte_other {s t : State} {a b : Addr} {v : Byte} (q : s.bus = [])
    (h : writeByte s a v = .ok t) (n : b ≠ a) (k : s.kindAt b ≠ .io) (w : Byte) :
    (∃ u, readByte t b = .ok (w, u)) ↔ ∃ u, readByte s b = .ok (w, u) := by
  have acc := writeByte_access h
  have hb : t.byteAt b = s.byteAt b := acc.other b (by simpa using n) (by simp [masterBytes_quiet q])
  rw [readByte_quiet (writeByte_bus_quiet q h), readByte_quiet q, found_congr acc.cfg hb k]

/-- RAM that holds a byte gives it. -/
theorem readByte_ram {s : State} {a : Addr} {v : Byte} (q : s.bus = []) (k : s.kindAt a = .ram)
    (h : s.byteAt a = some v) : readByte s a = .ok (v, s.record (.read a v)) := by
  refine readByte_ok.2 ⟨s, none, busCycle_ok.2 (.inl ⟨q, rfl, rfl⟩), ?_, rfl⟩
  simpa only [State.found, k, State.byteAt] using h

/-- RAM that holds the two bytes of a word gives it. -/
theorem readWord_ram {s : State} {page : Byte} {a v : Word} (q : s.bus = [])
    (klo : s.kindAt (dataAddr s page a) = .ram) (khi : s.kindAt (dataAddr s page (a + 1#16)) = .ram)
    (hlo : s.byteAt (dataAddr s page a) = some (loByte v))
    (hhi : s.byteAt (dataAddr s page (a + 1#16)) = some (hiByte v)) :
    ∃ u, readWord s page a = .ok (v, u) :=
  ⟨_, readWord_ok.2 ⟨loByte v, hiByte v, _, readByte_ram q klo hlo,
    readByte_ram (s := s.record _) q khi hhi, (pair_hi_lo v).symm⟩⟩

/-- The offset of an address in its page is its lower 16 bits, on every model. -/
theorem dataAddr_setWidth (s : State) (page : Byte) (a : Word) : (dataAddr s page a).setWidth 16 = a := by
  unfold dataAddr
  split
  · exact BitVec.setWidth_append_eq_right
  · exact BitVec.setWidth_setWidth_of_le a (by omega)

/-- The two bytes of a word have two addresses, at the end of a page too (D3). -/
theorem dataAddr_succ_ne (s : State) (page : Byte) (a : Word) : dataAddr s page a ≠ dataAddr s page (a + 1#16) := by
  intro h
  have e := congrArg (BitVec.setWidth 16) h
  rw [dataAddr_setWidth, dataAddr_setWidth] at e
  bv_omega

/-- A word written to RAM leaves its low byte at the offset and its high byte behind it. -/
theorem writeWord_ram_byteAt {s t : State} {page : Byte} {a v : Word} (q : s.bus = [])
    (klo : s.kindAt (dataAddr s page a) = .ram) (khi : s.kindAt (dataAddr s page (a + 1#16)) = .ram)
    (h : writeWord s page a v = .ok t) :
    t.bus = [] ∧ t.byteAt (dataAddr s page a) = some (loByte v) ∧
      t.byteAt (dataAddr s page (a + 1#16)) = some (hiByte v) := by
  obtain ⟨u, h1, h2⟩ := writeWord_ok.1 h
  have acc := writeByte_access h1
  have qu := writeByte_bus_quiet q h1
  rw [dataAddr_cfg acc.cfg] at h2
  have at2 := writeByte_ram_byteAt ((acc.kindAt _).trans khi) h2
  refine ⟨writeByte_bus_quiet qu h2, ?_, by simp [at2]⟩
  rw [at2, if_neg (dataAddr_succ_ne s page a), cycled_quiet qu, writeByte_ram_byteAt klo h1, if_pos rfl]

/-- A word written to RAM is read back. -/
theorem readWord_writeWord {s t : State} {page : Byte} {a v : Word} (q : s.bus = [])
    (klo : s.kindAt (dataAddr s page a) = .ram) (khi : s.kindAt (dataAddr s page (a + 1#16)) = .ram)
    (h : writeWord s page a v = .ok t) : ∃ u, readWord t page a = .ok (v, u) := by
  have acc := writeWord_access h
  obtain ⟨qt, hlo, hhi⟩ := writeWord_ram_byteAt q klo khi h
  apply readWord_ram qt <;> rw [dataAddr_cfg acc.cfg]
  · exact (acc.kindAt _).trans klo
  · exact (acc.kindAt _).trans khi
  · exact hlo
  · exact hhi

/-- The low byte of a word as a number. -/
theorem loByte_eq_ofNat (v : Word) : loByte v = BitVec.ofNat 8 (v.toNat % 256) := by
  apply BitVec.eq_of_toNat_eq
  simp [loByte]

/-- Settles O49: each clause is a rule of a byte or word access above. -/
theorem readAfterWrite : Obligations.ReadAfterWrite := by
  refine ⟨fun s t a v k h => ⟨writeByte_ram_byteAt k h, readByte_writeByte k h⟩,
    fun s t a b v w q h n k => readByte_writeByte_other q h n k w, fun s a v q k => ?_,
    fun s t page a v q klo khi h => ⟨readWord_writeWord q klo khi h, ?_⟩⟩
  · rw [writeByte_quiet q, hold_ignored k]
  · rw [← loByte_eq_ofNat]
    exact (writeWord_ram_byteAt q klo khi h).2.1

/-! Instructions of an absent unit. -/

/-- The fault is a read that finds no byte (U7, U9). -/
def Fault.ofRead : Fault → Bool
  | .unwrittenByte _ _ => true
  | .unreadable _ _ => true
  | .undefinedOpcode _ => false
  | .noMulDiv _ => false
  | .noExpansion _ => false
  | .overlappedStore _ _ => false

/-- Where the operation faults, a read of its own has found no byte. -/
def ReadFaults {α : Type} (r : Result α) : Prop := ∀ f, r = .error (.fault f) → f.ofRead = true

theorem readFaults_ok {α : Type} (v : α) : ReadFaults (.ok v) := fun _ e => by cases e

/-- Through a sequence. -/
theorem ReadFaults.bind {α β : Type} {x : Result α} {f : α → Result β} (h : ReadFaults x)
    (k : ∀ v, ReadFaults (f v)) : ReadFaults (x >>= f) := by
  intro g e
  rcases bind_error.1 e with e | ⟨v, -, e⟩
  · exact h g e
  · exact k v g e

/-- A last part that only answers adds no fault. -/
theorem ReadFaults.map {α β : Type} {x : Result α} {f : α → β} (h : ReadFaults x) :
    ReadFaults (x >>= fun v => .ok (f v)) :=
  h.bind fun _ => readFaults_ok _

theorem readFault_ofRead (s : State) (a : Addr) : (s.readFault a).ofRead = true := by
  unfold State.readFault; cases s.kindAt a <;> rfl

theorem busCycle_readFaults (s : State) : ReadFaults (busCycle s) := fun _ h => absurd h busCycle_fault

theorem readByte_readFaults (s : State) (a : Addr) : ReadFaults (readByte s a) := by
  refine (busCycle_readFaults s).bind fun v => ?_
  dsimp only
  split
  · exact readFaults_ok _
  · rintro _ ⟨⟩; exact readFault_ofRead _ _

theorem writeByte_readFaults (s : State) (a : Addr) (v : Byte) : ReadFaults (writeByte s a v) :=
  (busCycle_readFaults s).map

theorem readWord_readFaults (s : State) (page : Byte) (a : Word) : ReadFaults (readWord s page a) :=
  (readByte_readFaults _ _).bind fun _ => (readByte_readFaults _ _).map

theorem writeWord_readFaults (s : State) (page : Byte) (a v : Word) : ReadFaults (writeWord s page a v) :=
  (writeByte_readFaults _ _ _).bind fun _ => writeByte_readFaults _ _ _

theorem push8_readFaults (v : Byte) (s : State) : ReadFaults (push8 v s) := writeByte_readFaults _ _ _

theorem push16_readFaults (v : Word) (s : State) : ReadFaults (push16 v s) :=
  (push8_readFaults _ _).bind fun _ => push8_readFaults _ _

theorem pop8_readFaults (s : State) : ReadFaults (pop8 s) := (readByte_readFaults _ _).map

theorem pop16_readFaults (s : State) : ReadFaults (pop16 s) :=
  (pop8_readFaults _).bind fun _ => (pop8_readFaults _).map

theorem popReg8_readFaults (r : Reg8) (s : State) : ReadFaults (popReg8 r s) := (pop8_readFaults s).map

theorem popReg16_readFaults (r : Reg16) (s : State) : ReadFaults (popReg16 r s) := (pop16_readFaults s).map

theorem pushIp_readFaults (s : State) : ReadFaults (pushIp s) :=
  (push8_readFaults _ _).bind fun _ => push8_readFaults _ _

theorem popIp_readFaults (s : State) : ReadFaults (popIp s) :=
  (popReg8_readFaults _ _).bind fun _ => popReg8_readFaults _ _

theorem pushAll_readFaults (s : State) : ReadFaults (pushAll s) :=
  (push16_readFaults _ _).bind fun _ => (push16_readFaults _ _).bind fun _ =>
    (push16_readFaults _ _).bind fun _ => (push16_readFaults _ _).bind fun _ => push8_readFaults _ _

theorem popAll_readFaults (s : State) : ReadFaults (popAll s) :=
  (popReg8_readFaults _ _).bind fun _ => (popReg16_readFaults _ _).bind fun _ =>
    (popReg16_readFaults _ _).bind fun _ => (popReg16_readFaults _ _).bind fun _ => popReg16_readFaults _ _

theorem callPush_readFaults (s : State) : ReadFaults (callPush s) := by
  unfold callPush
  split
  · exact (push8_readFaults _ _).bind fun _ => push16_readFaults _ _
  · exact push16_readFaults _ _

theorem retPop_readFaults (s : State) : ReadFaults (retPop s) := by
  refine (pop16_readFaults s).bind fun v => ?_
  dsimp only
  split
  · exact (pop8_readFaults _).map
  · exact readFaults_ok _

theorem pushFrame_readFaults (s : State) : ReadFaults (pushFrame s) :=
  (callPush_readFaults _).bind fun _ => push8_readFaults _ _

theorem exceptionEntry_readFaults (f : Factor) (s : State) : ReadFaults (exceptionEntry f s) :=
  (pushFrame_readFaults _).bind fun _ => (readWord_readFaults _ _ _).map

theorem exceptionReturn_readFaults (s : State) : ReadFaults (exceptionReturn s) :=
  (pop8_readFaults _).bind fun _ => retPop_readFaults _

theorem divide_readFaults (s : State) : ReadFaults (divide s) := by
  unfold divide
  split
  · exact exceptionEntry_readFaults _ _
  · dsimp only
    split <;> exact readFaults_ok _

theorem call_readFaults (cond : Cond) (offset : Word) (s : State) : ReadFaults (call cond offset s) := by
  unfold call
  split
  · exact (callPush_readFaults _).map
  · exact readFaults_ok _

theorem read8_readFaults (src : Loc8) (s : State) : ReadFaults (src.read s) := by
  cases src with
  | reg r => exact readFaults_ok _
  | mem m => exact readByte_readFaults _ _

theorem source8_readFaults (src : Src8) (s : State) : ReadFaults (src.read s) := by
  cases src with
  | mem m => exact readByte_readFaults _ _
  | reg | imm => exact readFaults_ok _

theorem source16_readFaults (src : Src16) (s : State) : ReadFaults (src.read s) := by
  cases src with
  | mem m => exact readWord_readFaults _ _ _
  | reg | imm | pc => exact readFaults_ok _

theorem write8_readFaults (dst : Loc8) (v : Byte) (s : State) : ReadFaults (dst.write v s) := by
  cases dst with
  | reg r => exact readFaults_ok _
  | mem m => exact writeByte_readFaults _ _ _

theorem write16_readFaults (dst : Loc16) (v : Word) (s : State) : ReadFaults (dst.write v s) := by
  cases dst with
  | reg r => exact readFaults_ok _
  | mem m => exact writeWord_readFaults _ _ _ _

/-- No operation raises a fault of U3 or U4 by itself: these come from `requires` alone. -/
theorem Form.run_readFaults (f : Form) (s : State) : ReadFaults (f.run s) := by
  cases f with
  | multiply | logicSc | exchangeAB | exchangeBa | inc16 | dec16 | packDigits | unpackDigits | signExtendA
  | jump | decrementJump | jumpHl | noOperation | enterHalt | enterSleep => exact readFaults_ok _
  | arith8 | logic8 =>
    exact (source8_readFaults _ _).bind fun _ => (read8_readFaults _ _).bind fun _ =>
      (write8_readFaults _ _ _).map
  | compare8 | bitTest => exact (source8_readFaults _ _).bind fun _ => (read8_readFaults _ _).map
  | inc8 | dec8 | negate8 | complement8 | shift8 =>
    exact (read8_readFaults _ _).bind fun _ => (write8_readFaults _ _ _).map
  | swapDigits => exact (read8_readFaults _ _).bind fun _ => write8_readFaults _ _ _
  | load8 => exact (source8_readFaults _ _).bind fun _ => write8_readFaults _ _ _
  | load16 => exact (source16_readFaults _ _).bind fun _ => write16_readFaults _ _ _
  | exchangeAHl => exact (readByte_readFaults _ _).bind fun _ => (writeByte_readFaults _ _ _).map
  | arith16 | compare16 => exact (source16_readFaults _ _).map
  | divide => exact divide_readFaults s
  | pushReg8 => exact push8_readFaults _ _
  | popReg8 => exact popReg8_readFaults _ _
  | pushReg16 => exact push16_readFaults _ _
  | popReg16 => exact popReg16_readFaults _ _
  | pushIp => exact pushIp_readFaults _
  | popIp => exact popIp_readFaults _
  | pushAll => exact pushAll_readFaults _
  | popAll => exact popAll_readFaults _
  | pushAle =>
    exact (pushAll_readFaults _).bind fun _ => (push8_readFaults _ _).bind fun _ => pushIp_readFaults _
  | popAle =>
    exact (popIp_readFaults _).bind fun _ => (popReg8_readFaults _ _).bind fun _ => popAll_readFaults _
  | jumpVector => exact (readWord_readFaults _ _ _).map
  | call cond offset => exact call_readFaults cond offset s
  | callIndirect => exact (callPush_readFaults _).bind fun _ => (readWord_readFaults _ _ _).map
  | returnPlain => exact retPop_readFaults _
  | returnException => exact exceptionReturn_readFaults _
  | returnSkip => exact (retPop_readFaults _).map
  | softInterrupt => exact (pushFrame_readFaults _).bind fun _ => (readWord_readFaults _ _ _).map

/-- An instruction that the model has faults only by a read that finds no byte. -/
theorem exec_fault_ofRead {i : Instr} {s : State} {f : Fault} (w : WellFormed s.cfg.model i)
    (h : exec i s = .fault f) : f.ofRead = true := by
  rw [exec_form, conclude_fault, requires_met w] at h
  exact Form.run_readFaults _ _ f h

/-- An instruction that the model lacks stops in the state it is given, before its operands are read (log 27). -/
theorem exec_not_wellFormed {i : Instr} {s : State} (w : ¬WellFormed s.cfg.model i) :
    i.need = .mulDiv ∧ exec i s = .fault (.noMulDiv s) ∨
      i.need = .expansion ∧ exec i s = .fault (.noExpansion s) := by
  simp only [exec_form, conclude_fault]
  exact requires_unmet (Bool.eq_false_iff.2 w) _

/-- The fault of U3: exactly the instructions that need multiplication and division, where the model lacks it. -/
theorem exec_eq_noMulDiv {i : Instr} {s t : State} :
    exec i s = .fault (.noMulDiv t) ↔ t = s ∧ i.need = .mulDiv ∧ ¬WellFormed s.cfg.model i := by
  by_cases w : WellFormed s.cfg.model i
  · have n : exec i s ≠ .fault (.noMulDiv t) := fun h => Bool.noConfusion (exec_fault_ofRead w h)
    simp [w, n]
  · obtain ⟨hn, he⟩ | ⟨hn, he⟩ := exec_not_wellFormed w <;> simp [w, hn, he, eq_comm]

/-- The fault of U4: exactly the instructions that need the expansion registers, where the model lacks them. -/
theorem exec_eq_noExpansion {i : Instr} {s t : State} :
    exec i s = .fault (.noExpansion t) ↔ t = s ∧ i.need = .expansion ∧ ¬WellFormed s.cfg.model i := by
  by_cases w : WellFormed s.cfg.model i
  · have n : exec i s ≠ .fault (.noExpansion t) := fun h => Bool.noConfusion (exec_fault_ofRead w h)
    simp [w, n]
  · obtain ⟨hn, he⟩ | ⟨hn, he⟩ := exec_not_wellFormed w <;> simp [w, hn, he, eq_comm]

/-- Multiplication and division are two instructions (R217, R218). -/
theorem need_eq_mulDiv {i : Instr} : i.need = .mulDiv ↔ i = .mlt ∨ i = .div := by
  constructor
  · intro h
    cases i with
    | mlt => exact .inl rfl
    | div => exact .inr rfl
    | _ => cases h
  · rintro (rfl | rfl) <;> rfl

/-- Every instruction of the list of U4 needs the expansion registers. -/
theorem need_of_mem_expansionInstrs {i : Instr} {n : Byte} (h : i ∈ Rules.expansionInstrs n) :
    i.need = .expansion := by
  simp only [Rules.expansionInstrs, List.mem_cons, List.not_mem_nil, or_false] at h
  rcases h with rfl | rfl | rfl | rfl | rfl | rfl | rfl | rfl | rfl | rfl | rfl | rfl | rfl | rfl | rfl | rfl |
    rfl | rfl <;> rfl

/-- The list of U4 has every instruction that needs the expansion registers. -/
theorem need_eq_expansion {i : Instr} : i.need = .expansion ↔ ∃ n, i ∈ Rules.expansionInstrs n := by
  refine ⟨fun h => ?_, fun ⟨n, h⟩ => need_of_mem_expansionInstrs h⟩
  cases i with
  | ldNbImm n | ldEpImm n | ldXpImm n | ldYpImm n => exact ⟨n, by simp [Rules.expansionInstrs]⟩
  | ldANb | ldAEp | ldAXp | ldAYp | ldNbA | ldEpA | ldXpA | ldYpA | pushEp | pushIp | popEp | popIp | pushAle
  | popAle => exact ⟨0#8, by simp [Rules.expansionInstrs]⟩
  | _ => cases h

/-- MODEL0 and MODEL2 lack multiplication and division (R3). -/
theorem not_wellFormed_of_mulDiv {m : CpuModel} {i : Instr} (h : i.need = .mulDiv) :
    ¬WellFormed m i ↔ m = .model0 ∨ m = .model2 := by
  unfold WellFormed
  rw [h]
  cases m <;> decide

/-- MODEL0 and MODEL1 lack the expansion registers (R3, R39). -/
theorem not_wellFormed_of_expansion {m : CpuModel} {i : Instr} (h : i.need = .expansion) :
    ¬WellFormed m i ↔ m = .model0 ∨ m = .model1 := by
  unfold WellFormed
  rw [h]
  cases m <;> decide

/-- Settles O51: the two faults are those of `requires`, and no operation behind it raises either. -/
theorem absentInstructions : Obligations.AbsentInstructions := by
  refine ⟨fun i s => ?_, fun i s => ?_, fun i s t => ?_, fun i s w => ?_, fun s => ⟨rfl, rfl⟩⟩
  · rw [exec_eq_noMulDiv, ← need_eq_mulDiv]
    simp only [true_and]
    exact and_congr_right not_wellFormed_of_mulDiv
  · rw [exec_eq_noExpansion, ← need_eq_expansion]
    simp only [true_and]
    exact and_congr_right not_wellFormed_of_expansion
  · rw [exec_eq_noMulDiv, exec_eq_noExpansion]
    rintro (⟨ht, -, hw⟩ | ⟨ht, -, hw⟩) <;> exact ⟨ht, hw⟩
  · exact (exec_not_wellFormed w).imp And.right And.right

end Sys2Proof.Machine
end

section
/-! Frames (R37): what an operation may change, put together from what its bus cycles and register writes may change. An operation keeps to one frame from its first part to its last. -/

namespace Sys2Proof.Machine

/-- What an operation may change, in the terms of `Kept`. -/
structure Frame where
  onBus : Bool
  fields : List Field
  flags : List Flag
  bytes : List Addr

/-- All that `F` allows, `G` allows. -/
structure Frame.Le (F G : Frame) : Prop where
  onBus : F.onBus = true → G.onBus = true := by simp +contextual
  fields : F.fields ⊆ G.fields := by simp
  flags : F.flags ⊆ G.flags := by simp
  bytes : F.bytes ⊆ G.bytes := by simp

/-- From `s` to `t` nothing changes but what the frame allows, and no cut and no byte of the bus master is new. -/
structure Within (F : Frame) (s t : State) : Prop where
  kept : Kept F.onBus s t F.fields F.flags F.bytes
  uncut : s.uncut → t.uncut
  master : masterBytes t ⊆ masterBytes s

/-! What a write to a named register changes. -/

@[simp] theorem Reg8.fields_a : Reg8.a.fields = [.a] := rfl
@[simp] theorem Reg8.fields_b : Reg8.b.fields = [.b] := rfl
@[simp] theorem Reg8.fields_l : Reg8.l.fields = [.l] := rfl
@[simp] theorem Reg8.fields_h : Reg8.h.fields = [.h] := rfl
@[simp] theorem Reg16.fields_hl : Reg16.hl.fields = [.h, .l] := rfl
@[simp] theorem Loc8.flags_a : Loc8.flags (.reg .a) = [] := rfl
@[simp] theorem Loc8.flags_b : Loc8.flags (.reg .b) = [] := rfl
@[simp] theorem Loc8.flags_l : Loc8.flags (.reg .l) = [] := rfl
@[simp] theorem Loc8.flags_h : Loc8.flags (.reg .h) = [] := rfl

/-! Changes within a frame. -/

/-- The bytes and the fields that the break-points add to a frame. -/
theorem kept_iff {b : Bool} {s t : State} {x : List Field} {y : List Flag} {z : List Addr} :
    Kept b s t x y z ↔ (∀ f, f ∉ x → (b = true → f ≠ .bus ∧ f ≠ .trace) → f.same s t) ∧
      (∀ g, g ∉ y → t.flag g = s.flag g) ∧
      (∀ a, a ∉ z → (b = true → a ∉ masterBytes s) → t.byteAt a = s.byteAt a) := by
  cases b
  · simp [Kept, Framed]
  · simp only [Kept, if_true, Framed, List.mem_cons, List.mem_append, not_or, true_implies]
    constructor
    · rintro ⟨hf, hg, ha⟩
      exact ⟨fun f h1 h2 => hf f ⟨h2.1, h2.2, h1⟩, hg, fun a h1 h2 => ha a ⟨h1, h2⟩⟩
    · rintro ⟨hf, hg, ha⟩
      exact ⟨fun f h => hf f h.2.2 ⟨h.1, h.2.1⟩, hg, fun a h => ha a h.1 h.2⟩

theorem Field.same_refl (f : Field) (s : State) : f.same s s := by cases f <;> rfl

theorem Field.same_trans {f : Field} {s t u : State} (h : f.same s t) (k : f.same t u) : f.same s u := by
  cases f <;> exact Eq.trans k h

theorem Within.refl (F : Frame) (s : State) : Within F s s :=
  ⟨kept_iff.2 ⟨fun f _ _ => f.same_refl s, fun _ _ => rfl, fun _ _ _ => rfl⟩, id, fun _ h => h⟩

theorem Within.trans {F : Frame} {s t u : State} (h : Within F s t) (k : Within F t u) : Within F s u := by
  obtain ⟨hf, hg, ha⟩ := kept_iff.1 h.kept
  obtain ⟨kf, kg, ka⟩ := kept_iff.1 k.kept
  refine ⟨kept_iff.2 ⟨fun f x b => Field.same_trans (hf f x b) (kf f x b), fun g x => (kg g x).trans (hg g x),
    fun a x b => ?_⟩, fun w => k.uncut (h.uncut w), fun a w => h.master (k.master w)⟩
  exact (ka a x fun e w => b e (h.master w)).trans (ha a x b)

theorem Within.mono {F G : Frame} {s t : State} (h : Within F s t) (l : F.Le G) : Within G s t := by
  obtain ⟨hf, hg, ha⟩ := kept_iff.1 h.kept
  exact ⟨kept_iff.2 ⟨fun f x b => hf f (fun e => x (l.fields e)) fun e => b (l.onBus e),
    fun g x => hg g fun e => x (l.flags e), fun a x b => ha a (fun e => x (l.bytes e)) fun e => b (l.onBus e)⟩,
    h.uncut, h.master⟩

/-- A change that the frame allows, then what keeps to it. -/
theorem Within.then {F G : Frame} {s t u : State} (h : Within F s t) (l : F.Le G) (k : Within G t u) :
    Within G s u :=
  (h.mono l).trans k

/-- A flag that has its value again need not be in the frame. -/
theorem Within.drop_flags {b : Bool} {x : List Field} {y y' : List Flag} {z : List Addr} {s t : State}
    (h : Within ⟨b, x, y, z⟩ s t) (k : ∀ g ∈ y, g ∉ y' → t.flag g = s.flag g) : Within ⟨b, x, y', z⟩ s t := by
  obtain ⟨hf, hg, ha⟩ := kept_iff.1 h.kept
  refine ⟨kept_iff.2 ⟨hf, fun g n => ?_, ha⟩, h.uncut, h.master⟩
  by_cases e : g ∈ y
  · exact k g e n
  · exact hg g e

/-- Bus cycles that store to `z` only. -/
theorem Access.within {s t : State} {z : List Addr} (h : Access s t z) : Within ⟨true, [], [], z⟩ s t := by
  refine ⟨kept_iff.2 ⟨fun f _ b => ?_, fun g _ => h.same (·.flag g) fun _ _ _ _ => rfl,
    fun a x b => h.other a x (b rfl)⟩, h.uncut, fun a w => h.master a w⟩
  have e : f.same s (((s.setMem t.mem).setBus t.bus).setTrace t.trace) := by
    cases f with
    | bus => exact absurd rfl (b rfl).1
    | trace => exact absurd rfl (b rfl).2
    | _ => rfl
  rwa [← h.only] at e

/-- A write to registers: memory and the bus stay. -/
theorem Within.of_registers {s t : State} {x : List Field} {y : List Flag} (hf : ∀ f, f ∉ x → f.same s t)
    (hg : ∀ g, g ∉ y → t.flag g = s.flag g) (m : t.mem = s.mem) (b : t.bus = s.bus) :
    Within ⟨false, x, y, []⟩ s t :=
  ⟨⟨hf, hg, fun a _ => by rw [State.byteAt, State.byteAt, m]⟩, fun u => by rwa [State.uncut, b],
    fun a w => by rwa [masterBytes, b] at w⟩

theorem setPc_within (s : State) (v : Word) : Within ⟨false, [.pc], [], []⟩ s (s.setPc v) :=
  .of_registers (fun f h => by cases f with | pc => simp at h | _ => rfl) (fun _ _ => rfl) rfl rfl

theorem setSp_within (s : State) (v : Word) : Within ⟨false, [.sp], [], []⟩ s (s.setSp v) :=
  .of_registers (fun f h => by cases f with | sp => simp at h | _ => rfl) (fun _ _ => rfl) rfl rfl

theorem setCb_within (s : State) (v : Byte) : Within ⟨false, [.cb], [], []⟩ s (s.setCb v) :=
  .of_registers (fun f h => by cases f with | cb => simp at h | _ => rfl) (fun _ _ => rfl) rfl rfl

theorem setNb_within (s : State) (v : Byte) : Within ⟨false, [.nb], [], []⟩ s (s.setNb v) :=
  .of_registers (fun f h => by cases f with | nb => simp at h | _ => rfl) (fun _ _ => rfl) rfl rfl

theorem setStatus_within (s : State) (v : Status) : Within ⟨false, [.status], [], []⟩ s (s.setStatus v) :=
  .of_registers (fun f h => by cases f with | status => simp at h | _ => rfl) (fun _ _ => rfl) rfl rfl

theorem setIackLow_within (s : State) (v : Bool) : Within ⟨false, [.iackLow], [], []⟩ s (s.setIackLow v) :=
  .of_registers (fun f h => by cases f with | iackLow => simp at h | _ => rfl) (fun _ _ => rfl) rfl rfl

theorem setZdivPending_within (s : State) (v : Bool) :
    Within ⟨false, [.zdivPending], [], []⟩ s (s.setZdivPending v) :=
  .of_registers (fun f h => by cases f with | zdivPending => simp at h | _ => rfl) (fun _ _ => rfl) rfl rfl

/-- SC is no field: it is its flags. -/
theorem setSc_same (s : State) (v : Byte) (f : Field) : f.same s (s.setSc v) := by cases f <;> rfl

theorem setSc_within (s : State) (v : Byte) : Within ⟨false, [], Flag.all, []⟩ s (s.setSc v) :=
  .of_registers (fun f _ => setSc_same s v f) (fun g h => by cases g <;> simp [Flag.all] at h) rfl rfl

theorem setFlag_within (s : State) (g : Flag) (v : Bool) : Within ⟨false, [], [g], []⟩ s (s.setFlag g v) :=
  .of_registers (fun f _ => setSc_same s _ f)
    (fun h n => by rw [State.flag_setFlag, if_neg fun e => n (by simp [e])]) rfl rfl

theorem set8_within (s : State) (r : Reg8) (v : Byte) :
    Within ⟨false, r.fields, Loc8.flags (.reg r), []⟩ s (s.set8 r v) := by
  cases r with
  | sc => exact setSc_within s v
  | nb => exact setNb_within s v
  | _ =>
    refine .of_registers (fun f h => ?_) (fun _ _ => rfl) rfl rfl
    cases f <;> simp [Reg8.fields, Field.same, State.set8] at h ⊢

theorem set16_within (s : State) (r : Reg16) (v : Word) : Within ⟨false, r.fields, [], []⟩ s (s.set16 r v) := by
  cases r with
  | sp => exact setSp_within s v
  | _ =>
    refine .of_registers (fun f h => ?_) (fun _ _ => rfl) rfl rfl
    cases f <;> simp [Reg16.fields, Field.same, State.set16] at h ⊢

theorem setNVCZ_within {w : Nat} (s : State) (r : Alu w) :
    Within ⟨false, [], [.n, .v, .c, .z], []⟩ s (s.setNVCZ r) :=
  .of_registers (fun f _ => setSc_same s _ f)
    (fun g h => by cases g <;> simp [State.setNVCZ] at h ⊢) rfl rfl

theorem setNZ_within (s : State) (v : Byte) : Within ⟨false, [], [.n, .z], []⟩ s (s.setNZ v) :=
  .of_registers (fun f _ => setSc_same s _ f)
    (fun g h => by cases g <;> simp [State.setNZ] at h ⊢) rfl rfl

theorem branch_within (v : Word) (s : State) : Within ⟨false, [.pc, .cb], [], []⟩ s (branch v s) := by
  refine .of_registers (fun f h => ?_) (fun g _ => State.flag_congr (by simp) g) (by simp) (by simp)
  cases f with
  | pc | cb => simp at h
  | _ => simp [Field.same]

theorem noBranch_within (s : State) : Within ⟨false, [.nb], [], []⟩ s (noBranch s) := by
  refine .of_registers (fun f h => ?_) (fun g _ => State.flag_congr (by simp) g) (by simp) (by simp)
  cases f with
  | nb => simp at h
  | _ => simp [Field.same]

/-! Operations within a frame. -/

/-- The operation keeps to the frame where it answers, `st` being the state in its answer, and no reset cuts it, SR staying HIGH in the bus cycles that the frame allows. -/
structure Runs {α : Type} (st : α → State) (F : Frame) (s : State) (r : Result α) : Prop where
  within : ∀ v, r = .ok v → Within F s (st v)
  noReset : (F.onBus = true → s.uncut) → ∀ u, r ≠ .error (.reset u)

section
variable {α β : Type} {st : α → State} {st' : β → State} {F G : Frame} {s t : State}

/-- Nothing but an answer. -/
theorem Runs.ok {v : α} (h : Within F s (st v)) : Runs st F s (.ok v) :=
  ⟨by rintro _ ⟨⟩; exact h, by rintro _ _ ⟨⟩⟩

theorem Runs.mono {r : Result α} (h : Runs st F s r) (l : F.Le G) : Runs st G s r :=
  ⟨fun v e => (h.within v e).mono l, fun u => h.noReset fun b => u (l.onBus b)⟩

/-- From a later state. -/
theorem Runs.after {r : Result α} (h : Within F s t) (l : F.Le G) (k : Runs st G t r) : Runs st G s r :=
  ⟨fun v e => h.then l (k.within v e), fun u => k.noReset fun b => h.uncut (u b)⟩

/-- A part that the frame allows, then what keeps to it. -/
theorem Runs.bind {x : Result α} {f : α → Result β} (h : Runs st F s x) (l : F.Le G)
    (k : ∀ v, x = .ok v → Runs st' G (st v) (f v)) : Runs st' G s (x >>= f) := by
  constructor
  · intro w e
    obtain ⟨v, e1, e2⟩ := bind_ok.1 e
    exact (h.within v e1).then l ((k v e1).within w e2)
  · intro u w e
    rcases bind_error.1 e with e | ⟨v, e1, e2⟩
    · exact (h.mono l).noReset u w e
    · exact (k v e1).noReset (fun b => (h.within v e1).uncut (u b)) w e2

/-- See `Runs.bind`: the last part only answers. -/
theorem Runs.map {x : Result α} {f : α → β} (h : Runs st F s x) (l : F.Le G)
    (k : ∀ v, x = .ok v → Within G (st v) (st' (f v))) : Runs st' G s (x >>= fun v => .ok (f v)) :=
  h.bind l fun v e => .ok (k v e)

end

/-- The frame of bus cycles that store nothing. -/
@[simp] def Frame.reads (b : Bool) : Frame := ⟨b, [], [], []⟩

theorem busCycle_noReset {s : State} (h : s.uncut) (u : State) : busCycle s ≠ .error (.reset u) := by
  obtain ⟨d, e⟩ := busCycle_uncut h
  simp [e]

theorem readByte_runs (s : State) (a : Addr) : Runs Prod.snd (.reads true) s (readByte s a) :=
  ⟨fun _ h => (readByte_access h).within, fun u w h => busCycle_noReset (u rfl) w (readByte_reset.1 h)⟩

theorem writeByte_runs (s : State) (a : Addr) (v : Byte) : Runs id ⟨true, [], [], [a]⟩ s (writeByte s a v) :=
  ⟨fun _ h => (writeByte_access h).within, fun u w h => by rw [writeByte_uncut (u rfl)] at h; cases h⟩

theorem readWord_runs (s : State) (page : Byte) (a : Word) : Runs Prod.snd (.reads true) s (readWord s page a) :=
  (readByte_runs _ _).bind {} fun v _ => (readByte_runs v.2 _).map {} fun _ _ => .refl _ _

theorem writeWord_runs (s : State) (page : Byte) (a v : Word) :
    Runs id ⟨true, [], [], [dataAddr s page a, dataAddr s page (a + 1#16)]⟩ s (writeWord s page a v) :=
  ⟨fun _ h => (writeWord_access h).within, fun u w h => by rw [writeWord_uncut (u rfl)] at h; cases h⟩

theorem read8_runs (src : Loc8) (s : State) : Runs Prod.snd (.reads src.onBus) s (src.read s) := by
  cases src with
  | reg r => exact .ok (.refl _ _)
  | mem m => exact readByte_runs _ _

theorem source8_runs (src : Src8) (s : State) : Runs Prod.snd (.reads src.onBus) s (src.read s) := by
  cases src with
  | mem m => exact readByte_runs _ _
  | reg | imm => exact .ok (.refl _ _)

theorem source16_runs (src : Src16) (s : State) : Runs Prod.snd (.reads src.onBus) s (src.read s) := by
  cases src with
  | mem m => exact readWord_runs _ _ _
  | reg | imm | pc => exact .ok (.refl _ _)

theorem write8_runs (dst : Loc8) (v : Byte) (s : State) :
    Runs id ⟨dst.onBus, dst.fields, dst.flags, dst.stored s⟩ s (dst.write v s) := by
  cases dst with
  | reg r => exact .ok (set8_within s r v)
  | mem m => exact writeByte_runs _ _ _

theorem write16_runs (dst : Loc16) (v : Word) (s : State) :
    Runs id ⟨dst.onBus, dst.fields, [], dst.stored s⟩ s (dst.write v s) := by
  cases dst with
  | reg r => exact .ok (set16_within s r v)
  | mem m => exact writeWord_runs _ _ _ _

/-- The address of an operand is the same behind bus cycles. -/
theorem Access.ea {s t : State} {z : List Addr} (h : Access s t z) (m : MemOp) : m.ea t = m.ea s :=
  h.same m.ea fun _ _ _ _ => by cases m <;> rfl

theorem Access.stored8 {s t : State} {z : List Addr} (h : Access s t z) (dst : Loc8) : dst.stored t = dst.stored s :=
  h.same (dst.stored ·) fun _ _ _ _ => by cases dst with | reg r => rfl | mem m => cases m <;> rfl

theorem Access.stored16 {s t : State} {z : List Addr} (h : Access s t z) (dst : Loc16) :
    dst.stored t = dst.stored s :=
  h.same (dst.stored ·) fun _ _ _ _ => by cases dst with | reg r => rfl | mem m => cases m <;> rfl

/-! The stack within a frame. -/

/-- The bytes below SP depend on SP and on the device alone. -/
theorem belowSp_congr {s t : State} (hs : t.sp = s.sp) (hc : t.cfg = s.cfg) (n : Nat) : belowSp t n = belowSp s n := by
  induction n generalizing s t with
  | zero => rfl
  | succ n ih =>
    have e : stackAddr t (t.sp - 1#16) = stackAddr s (s.sp - 1#16) := by
      rw [stackAddr, stackAddr, dataAddr_cfg hc, hs, hc]
    simp only [belowSp, e, ih (s := s.setSp (s.sp - 1#16)) (t := t.setSp (t.sp - 1#16)) (by simp [hs]) (by simp [hc])]

/-- The bytes below SP, then those below the SP that is `n` lower. -/
theorem belowSp_add (s : State) (n m : Nat) :
    belowSp s (n + m) = belowSp s n ++ belowSp (s.setSp (s.sp - BitVec.ofNat 16 n)) m := by
  induction n generalizing s with
  | zero => simpa [belowSp] using (belowSp_congr (s := s) (t := s.setSp (s.sp - 0#16)) (by simp) rfl m).symm
  | succ n ih =>
    have e : s.sp - 1#16 - BitVec.ofNat 16 n = s.sp - BitVec.ofNat 16 (n + 1) := by bv_omega
    rw [Nat.add_right_comm, belowSp, belowSp, ih, List.cons_append, State.setSp_sp, e]
    rfl

/-- The frame of `n` pushes. -/
@[simp] def Frame.pushes (s : State) (n : Nat) : Frame := ⟨true, [.sp], [], belowSp s n⟩

/-- The operation stores the `n` bytes below SP and leaves SP `n` lower. -/
structure Pushes (n : Nat) (s : State) (r : Result State) : Prop where
  runs : Runs id (.pushes s n) s r
  sp : ∀ t, r = .ok t → t.sp = s.sp - BitVec.ofNat 16 n
  cfg : ∀ t, r = .ok t → t.cfg = s.cfg

theorem push8_pushes (v : Byte) (s : State) : Pushes 1 s (push8 v s) where
  runs := .after (setSp_within s (s.sp - 1#16)) {}
    ((writeByte_runs _ _ v).mono { bytes := by simp [belowSp, stackAddr, dataAddr_cfg (State.setSp_cfg s _)] })
  sp _ h := (push8_access h).same State.sp fun _ _ _ _ => rfl
  cfg _ h := (push8_keeps h).cfg

/-- Pushes, then pushes. -/
theorem Pushes.bind {n m : Nat} {s : State} {x : Result State} {f : State → Result State} (h : Pushes n s x)
    (k : ∀ t, x = .ok t → Pushes m t (f t)) : Pushes (n + m) s (x >>= f) := by
  have split : ∀ t, x = .ok t → belowSp s (n + m) = belowSp s n ++ belowSp t m := fun t e => by
    rw [belowSp_add, belowSp_congr (s := s.setSp _) (h.sp t e) (h.cfg t e)]
  refine ⟨h.runs.bind { bytes := by simp [belowSp_add] } fun t e =>
    (k t e).runs.mono { bytes := by simp [split t e] }, fun u e => ?_, fun u e => ?_⟩
  · obtain ⟨t, e1, e2⟩ := bind_ok.1 e
    rw [(k t e1).sp u e2, h.sp t e1]
    bv_omega
  · obtain ⟨t, e1, e2⟩ := bind_ok.1 e
    rw [(k t e1).cfg u e2, h.cfg t e1]

theorem push16_pushes (v : Word) (s : State) : Pushes 2 s (push16 v s) :=
  (push8_pushes _ s).bind fun _ _ => push8_pushes _ _

theorem pushIp_pushes (s : State) : Pushes 2 s (pushIp s) :=
  (push8_pushes _ s).bind fun _ _ => push8_pushes _ _

theorem pushAll_pushes (s : State) : Pushes 9 s (pushAll s) :=
  (push16_pushes _ s).bind (m := 7) fun _ _ => (push16_pushes _ _).bind (m := 5) fun _ _ =>
    (push16_pushes _ _).bind (m := 3) fun _ _ => (push16_pushes _ _).bind fun _ _ => push8_pushes _ _

theorem pushAle_pushes (s : State) : Pushes 12 s (pushAle s) :=
  (pushAll_pushes s).bind (m := 3) fun _ _ => (push8_pushes _ _).bind fun _ _ => pushIp_pushes _

theorem callPush_pushes (s : State) : Pushes (callFrame s).length s (callPush s) := by
  unfold callPush callFrame
  split
  · exact (push8_pushes _ s).bind fun _ _ => push16_pushes _ _
  · exact push16_pushes _ s

/-- The number of bytes of a frame depends on the device alone. -/
theorem callFrame_length {s t : State} (h : t.cfg = s.cfg) : (callFrame t).length = (callFrame s).length := by
  unfold callFrame
  rw [h]
  split <;> rfl

/-- See `callFrame_length`. -/
theorem exceptionFrame_length {s t : State} (h : t.cfg = s.cfg) :
    (exceptionFrame t).length = (exceptionFrame s).length := by
  simp only [exceptionFrame, List.length_append, callFrame_length h, List.length_singleton]

theorem pushFrame_pushes (s : State) : Pushes (exceptionFrame s).length s (pushFrame s) := by
  rw [exceptionFrame, List.length_append]
  exact (callPush_pushes s).bind fun _ _ => push8_pushes _ _

/-- The frame of popping registers. -/
@[simp] def Frame.pops (is : List Rules.Item) : Frame := ⟨true, .sp :: Rules.itemsFields is, Rules.itemsFlags is, []⟩

@[simp] theorem itemsFields_append (is js : List Rules.Item) :
    Rules.itemsFields (is ++ js) = Rules.itemsFields is ++ Rules.itemsFields js := by
  induction is with
  | nil => rfl
  | cons i is ih => cases i <;> simp [Rules.itemsFields, ih]

@[simp] theorem itemsFlags_append (is js : List Rules.Item) :
    Rules.itemsFlags (is ++ js) = Rules.itemsFlags is ++ Rules.itemsFlags js := by
  induction is with
  | nil => rfl
  | cons i is ih => cases i <;> simp [Rules.itemsFlags, ih]

/-- The registers of one pop, then those of another. -/
theorem Runs.pops_append {is js : List Rules.Item} {s : State} {x : Result State} {f : State → Result State}
    (h : Runs id (.pops is) s x) (k : ∀ t, Runs id (.pops js) t (f t)) : Runs id (.pops (is ++ js)) s (x >>= f) :=
  h.bind {} fun t _ => (k t).mono {}

theorem pop8_runs (s : State) : Runs Prod.snd ⟨true, [.sp], [], []⟩ s (pop8 s) :=
  (readByte_runs s _).map {} fun _ _ => (setSp_within _ _).mono {}

theorem pop16_runs (s : State) : Runs Prod.snd ⟨true, [.sp], [], []⟩ s (pop16 s) :=
  (pop8_runs s).bind {} fun v _ => (pop8_runs v.2).map {} fun _ _ => .refl _ _

theorem popReg8_runs (r : Reg8) (s : State) : Runs id (.pops [.byte r]) s (popReg8 r s) :=
  (pop8_runs s).map {} fun _ _ =>
    (set8_within _ r _).mono { fields := by simp [Rules.itemsFields], flags := by simp [Rules.itemsFlags] }

theorem popReg16_runs (r : Reg16) (s : State) : Runs id (.pops [.word r]) s (popReg16 r s) :=
  (pop16_runs s).map {} fun _ _ => (set16_within _ r _).mono { fields := by simp [Rules.itemsFields] }

theorem popIp_runs (s : State) : Runs id (.pops [.byte .yp, .byte .xp]) s (popIp s) :=
  (popReg8_runs .yp s).pops_append (popReg8_runs .xp)

theorem popAll_runs (s : State) :
    Runs id (.pops [.byte .br, .word .iy, .word .ix, .word .hl, .word .ba]) s (popAll s) :=
  (popReg8_runs .br s).pops_append fun t => (popReg16_runs .iy t).pops_append fun t =>
    (popReg16_runs .ix t).pops_append fun t => (popReg16_runs .hl t).pops_append (popReg16_runs .ba)

theorem popAle_runs (s : State) :
    Runs id (.pops [.byte .yp, .byte .xp, .byte .ep, .byte .br, .word .iy, .word .ix, .word .hl, .word .ba]) s
      (popAle s) :=
  (popIp_runs s).pops_append fun t => (popReg8_runs .ep t).pops_append popAll_runs

theorem retPop_runs (s : State) : Runs id ⟨true, [.pc, .sp, .cb, .nb], [], []⟩ s (retPop s) := by
  refine (pop16_runs s).bind {} fun v _ => .after (setPc_within v.2 v.1) {} ?_
  dsimp only
  split
  · exact (pop8_runs _).map {} fun _ _ => (setCb_within _ _).then {} ((setNb_within _ _).mono {})
  · exact .ok (.refl _ _)

theorem exceptionReturn_runs (s : State) :
    Runs id ⟨true, [.pc, .sp, .cb, .nb], Flag.all, []⟩ s (exceptionReturn s) :=
  (pop8_runs s).bind {} fun v _ => .after (setSc_within v.2 v.1) {} ((retPop_runs _).mono {})

/-! Exceptions within a frame. -/

theorem lockBus_within (s : State) : Within (.reads true) s (lockBus s) := (lockBus_access s).within

theorem acknowledge_within (s : State) : Within ⟨false, [.status, .iackLow], [], []⟩ s (acknowledge s) :=
  (setStatus_within s _).then {} ((setIackLow_within _ _).mono {})

/-- Behind the frame: the vector, the branch, the status run. -/
theorem enterVector_runs (kk : Byte) (s : State) :
    Runs id ⟨true, [.pc, .cb, .status], [], []⟩ s
      (readVector s kk >>= fun v => .ok ((branch v.1 v.2).setStatus .run)) :=
  (readWord_runs _ _ _).map {} fun _ _ => (branch_within _ _).then {} ((setStatus_within _ _).mono {})

/-- The entry of a zero division, which leaves the mask (D17). -/
theorem zeroDivisionEntry_runs (s : State) :
    Runs id ⟨true, [.pc, .sp, .cb, .status, .iackLow], [], belowSp s (exceptionFrame s).length⟩ s
      (exceptionEntry .zeroDivision s) := by
  have p := (pushFrame_pushes (acknowledge (lockBus s))).runs
  rw [Frame.pushes, exceptionFrame_length (s := s) (by simp), belowSp_congr (s := s) (by simp) (by simp)] at p
  exact .after (lockBus_within s) {} (.after (acknowledge_within _) {}
    (p.bind {} fun _ _ => (enterVector_runs _ _).mono {}))

theorem softInterrupt_runs (kk : Byte) (s : State) :
    Runs id ⟨true, [.pc, .cb, .sp, .status], [], belowSp s (exceptionFrame s).length⟩ s (softInterrupt kk s) := by
  have p := (pushFrame_pushes (s.setStatus .exception)).runs
  rw [Frame.pushes, exceptionFrame_length (s := s) (by simp), belowSp_congr (s := s) (by simp) (by simp)] at p
  exact .after (setStatus_within s _) {} (p.bind {} fun _ _ => (enterVector_runs _ _).mono {})

/-! The frame of each form. -/

/-- N, C and Z are written by every shift and rotate. -/
theorem mem_shiftFlags {op : ShiftOp} {g : Flag} (h : g ∈ [Flag.n, .v, .c, .z]) (n : g ≠ .v) :
    g ∈ Rules.shiftFlags op := by
  cases op <;> simpa [Rules.shiftFlags, n] using h

/-- V is written with its own value but by SLA and SRA. -/
theorem shift_keeps_v {op : ShiftOp} (h : Flag.v ∉ Rules.shiftFlags op) (s : State) (x : Byte) :
    (op.apply s x).v = s.flag .v := by
  cases op with
  | sla | sra => simp [Rules.shiftFlags] at h
  | _ => rfl

theorem shift8_runs (op : ShiftOp) (loc : Loc8) (s : State) :
    Runs id ⟨loc.onBus, loc.fields, loc.flags ++ Rules.shiftFlags op, loc.stored s⟩ s (shift8 op loc s) := by
  have r : Runs id ⟨loc.onBus, loc.fields, loc.flags ++ [.n, .v, .c, .z], loc.stored s⟩ s (shift8 op loc s) :=
    (read8_runs loc s).bind {} fun v h => (write8_runs loc _ v.2).map { bytes := by simp [(read8_access h).stored8] }
      fun _ _ => (setNVCZ_within _ _).mono {}
  refine ⟨fun t h => (r.within t h).drop_flags fun g m n => ?_, r.noReset⟩
  simp only [List.mem_append, not_or] at m n
  obtain rfl : g = .v := Decidable.byContradiction fun e => n.2 (mem_shiftFlags (m.resolve_left n.1) e)
  obtain ⟨x, s1, u, h1, h2, rfl⟩ := shift8_ok.1 h
  have e : s1.flag .v = s.flag .v := (read8_access h1).same (·.flag .v) fun _ _ _ _ => rfl
  simp [State.setNVCZ, shift_keeps_v n.2, e]

/-- What an instruction of the form may change. -/
def Form.frame (s : State) : Form → Frame
  | .arith8 _ dst src => ⟨src.onBus || dst.onBus, dst.fields, dst.flags ++ [.n, .v, .c, .z], dst.stored s⟩
  | .compare8 dst src => ⟨dst.onBus || src.onBus, [], [.n, .v, .c, .z], []⟩
  | .inc8 loc => ⟨loc.onBus, loc.fields, loc.flags ++ [.z], loc.stored s⟩
  | .dec8 loc => ⟨loc.onBus, loc.fields, loc.flags ++ [.z], loc.stored s⟩
  | .negate8 loc => ⟨loc.onBus, loc.fields, loc.flags ++ [.n, .v, .c, .z], loc.stored s⟩
  | .multiply => ⟨false, [.h, .l], [.n, .v, .c, .z], []⟩
  | .divide =>
    ⟨decide (s.a = 0#8), if s.a = 0#8 then [.pc, .sp, .cb, .status, .zdivPending, .iackLow] else [.h, .l],
      [.n, .v, .c, .z], if s.a = 0#8 then belowSp s (exceptionFrame s).length else []⟩
  | .logic8 _ dst src => ⟨src.onBus || dst.onBus, dst.fields, dst.flags ++ [.n, .z], dst.stored s⟩
  | .logicSc _ _ => ⟨false, [], Flag.all, []⟩
  | .bitTest dst src => ⟨dst.onBus || src.onBus, [], [.n, .z], []⟩
  | .complement8 loc => ⟨loc.onBus, loc.fields, loc.flags ++ [.n, .z], loc.stored s⟩
  | .load8 dst src => ⟨dst.onBus || src.onBus, dst.fields, dst.flags, dst.stored s⟩
  | .exchangeAB => ⟨false, [.a, .b], [], []⟩
  | .exchangeAHl => ⟨true, [.a], [], [MemOp.hl.ea s]⟩
  | .swapDigits loc => ⟨loc.onBus, loc.fields, loc.flags, loc.stored s⟩
  | .load16 dst src => ⟨dst.onBus || src.onBus, dst.fields, [], dst.stored s⟩
  | .exchangeBa rp => ⟨false, Reg16.ba.fields ++ rp.fields, [], []⟩
  | .arith16 _ dst src => ⟨src.onBus, dst.fields, [.n, .v, .c, .z], []⟩
  | .compare16 _ src => ⟨src.onBus, [], [.n, .v, .c, .z], []⟩
  | .inc16 r => ⟨false, r.fields, [.z], []⟩
  | .dec16 r => ⟨false, r.fields, [.z], []⟩
  | .packDigits => ⟨false, [.a], [], []⟩
  | .unpackDigits => ⟨false, [.a, .b], [], []⟩
  | .signExtendA => ⟨false, [.b], [], []⟩
  | .shift8 op loc => ⟨loc.onBus, loc.fields, loc.flags ++ Rules.shiftFlags op, loc.stored s⟩
  | .pushReg8 _ => .pushes s 1
  | .popReg8 r => .pops [.byte r]
  | .pushReg16 _ => .pushes s 2
  | .popReg16 r => .pops [.word r]
  | .pushIp => .pushes s 2
  | .popIp => .pops [.byte .yp, .byte .xp]
  | .pushAll => .pushes s 9
  | .popAll => .pops [.byte .br, .word .iy, .word .ix, .word .hl, .word .ba]
  | .pushAle => .pushes s 12
  | .popAle => .pops [.byte .yp, .byte .xp, .byte .ep, .byte .br, .word .iy, .word .ix, .word .hl, .word .ba]
  | .jump cond _ => ⟨false, if cond.holds s then [.pc, .cb] else [.nb], [], []⟩
  | .decrementJump _ => ⟨false, [.b, .pc, .cb, .nb], [.z], []⟩
  | .jumpHl => ⟨false, [.pc, .cb], [], []⟩
  | .jumpVector _ => ⟨true, [.pc, .cb], [], []⟩
  | .call cond _ =>
    ⟨cond.holds s, if cond.holds s then [.pc, .cb, .sp] else [.nb], [],
      if cond.holds s then belowSp s (callFrame s).length else []⟩
  | .callIndirect _ => ⟨true, [.pc, .cb, .sp], [], belowSp s (callFrame s).length⟩
  | .returnPlain => ⟨true, [.pc, .sp, .cb, .nb], [], []⟩
  | .returnException => ⟨true, [.pc, .sp, .cb, .nb], Flag.all, []⟩
  | .returnSkip => ⟨true, [.pc, .sp, .cb, .nb], [], []⟩
  | .softInterrupt _ => ⟨true, [.pc, .cb, .sp, .status], [], belowSp s (exceptionFrame s).length⟩
  | .noOperation => ⟨false, [], [], []⟩
  | .enterHalt => ⟨false, [.status], [], []⟩
  | .enterSleep => ⟨false, [.status], [], []⟩

theorem divide_runs (s : State) : Runs id (Form.divide.frame s) s (divide s) := by
  by_cases a : s.a = 0#8 <;> simp only [divide, Form.frame, a, if_true, if_false, decide_true, decide_false]
  · have c : ((heldDividend s).setZdivPending false).cfg = s.cfg := rfl
    have p : ((heldDividend s).setZdivPending false).sp = s.sp := rfl
    have e := zeroDivisionEntry_runs ((heldDividend s).setZdivPending false)
    rw [exceptionFrame_length c, belowSp_congr p c] at e
    exact .after (setNVCZ_within s _) {} (.after (setZdivPending_within _ _) {} (e.mono {}))
  · split
    · exact .ok ((setNVCZ_within _ _).mono {})
    · exact .ok ((set8_within s .l _).then {} ((set8_within _ .h _).then {} ((setNVCZ_within _ _).mono {})))

theorem jump_runs (cond : Cond) (offset : Word) (s : State) :
    Runs id ((Form.jump cond offset).frame s) s (jump cond offset s) := by
  cases h : cond.holds s <;> simp only [jump, Form.frame, h, if_true, Bool.false_eq_true, if_false]
  · exact .ok (noBranch_within s)
  · exact .ok (branch_within _ s)

theorem call_runs (cond : Cond) (offset : Word) (s : State) :
    Runs id ((Form.call cond offset).frame s) s (call cond offset s) := by
  cases h : cond.holds s <;> simp only [call, Form.frame, h, if_true, Bool.false_eq_true, if_false]
  · exact .ok ((noBranch_within s).mono {})
  · exact (callPush_pushes s).runs.map {} fun _ _ => (branch_within _ _).mono {}

/-- Every form keeps to its frame, and no reset cuts it but in a bus cycle. -/
theorem Form.run_runs (f : Form) (s : State) : Runs id (f.frame s) s (f.run s) := by
  cases f <;> simp only [Form.frame]
  case arith8 op dst src =>
    exact (source8_runs src s).bind {} fun v h => (read8_runs dst v.2).bind {} fun w k =>
      (write8_runs dst _ w.2).map { bytes := by simp [((source8_access h).trans (read8_access k)).stored8] } fun _ _ =>
        (setNVCZ_within _ _).mono {}
  case compare8 dst src =>
    exact (source8_runs src s).bind {} fun v _ => (read8_runs dst v.2).map {} fun _ _ => (setNVCZ_within _ _).mono {}
  case bitTest dst src =>
    exact (source8_runs src s).bind {} fun v _ => (read8_runs dst v.2).map {} fun _ _ => (setNZ_within _ _).mono {}
  case inc8 loc | dec8 loc =>
    exact (read8_runs loc s).bind {} fun v h =>
      (write8_runs loc _ v.2).map { bytes := by simp [(read8_access h).stored8] } fun _ _ =>
        (setFlag_within _ _ _).mono {}
  case negate8 loc =>
    exact (read8_runs loc s).bind {} fun v h =>
      (write8_runs loc _ v.2).map { bytes := by simp [(read8_access h).stored8] } fun _ _ =>
        (setNVCZ_within _ _).mono {}
  case complement8 loc =>
    exact (read8_runs loc s).bind {} fun v h =>
      (write8_runs loc _ v.2).map { bytes := by simp [(read8_access h).stored8] } fun _ _ =>
        (setNZ_within _ _).mono {}
  case multiply => exact .ok ((set16_within s .hl _).then {} ((setNVCZ_within _ _).mono {}))
  case divide => exact divide_runs s
  case logic8 op dst src =>
    exact (source8_runs src s).bind {} fun v h => (read8_runs dst v.2).bind {} fun w k =>
      (write8_runs dst _ w.2).map { bytes := by simp [((source8_access h).trans (read8_access k)).stored8] } fun _ _ =>
        (setNZ_within _ _).mono {}
  case logicSc op nn => exact .ok (setSc_within s _)
  case load8 dst src =>
    exact (source8_runs src s).bind {} fun v h =>
      (write8_runs dst _ v.2).mono { bytes := by simp [(source8_access h).stored8] }
  case exchangeAB => exact .ok ((set8_within s .a _).then {} ((set8_within _ .b _).mono {}))
  case exchangeAHl =>
    exact (readByte_runs s _).bind {} fun v h =>
      (writeByte_runs v.2 _ _).map { bytes := by simp [(readByte_access h).ea] } fun _ _ => (set8_within _ .a _).mono {}
  case swapDigits loc =>
    exact (read8_runs loc s).bind {} fun v h =>
      (write8_runs loc _ v.2).mono { bytes := by simp [(read8_access h).stored8] }
  case load16 dst src =>
    exact (source16_runs src s).bind {} fun v h =>
      (write16_runs dst _ v.2).mono { bytes := by simp [(source16_access h).stored16] }
  case exchangeBa rp => exact .ok ((set16_within s .ba _).then {} ((set16_within _ rp _).mono {}))
  case arith16 op dst src =>
    exact (source16_runs src s).map {} fun _ _ => (set16_within _ dst _).then {} ((setNVCZ_within _ _).mono {})
  case compare16 dst src => exact (source16_runs src s).map {} fun _ _ => (setNVCZ_within _ _).mono {}
  case inc16 r | dec16 r => exact .ok ((set16_within s r _).then {} ((setFlag_within _ _ _).mono {}))
  case packDigits => exact .ok ((set8_within s .a _).mono {})
  case unpackDigits => exact .ok ((set8_within s .b _).then {} ((set8_within _ .a _).mono {}))
  case signExtendA => exact .ok ((set8_within s .b _).mono {})
  case shift8 op loc => exact shift8_runs op loc s
  case pushReg8 r => exact (push8_pushes _ s).runs
  case pushReg16 r => exact (push16_pushes _ s).runs
  case pushIp => exact (pushIp_pushes s).runs
  case pushAll => exact (pushAll_pushes s).runs
  case pushAle => exact (pushAle_pushes s).runs
  case popReg8 r => exact popReg8_runs r s
  case popReg16 r => exact popReg16_runs r s
  case popIp => exact popIp_runs s
  case popAll => exact popAll_runs s
  case popAle => exact popAle_runs s
  case jump cond offset => exact jump_runs cond offset s
  case decrementJump offset =>
    refine .after (set8_within s .b (s.b - 1#8)) {} (.after (setFlag_within _ .z (s.b - 1#8 == 0#8)) {} (.ok ?_))
    dsimp only [id]
    split
    · exact (noBranch_within _).mono {}
    · exact (branch_within _ _).mono {}
  case jumpHl => exact .ok (branch_within _ _)
  case jumpVector kk => exact (readWord_runs s _ _).map {} fun _ _ => (branch_within _ _).mono {}
  case call cond offset => exact call_runs cond offset s
  case callIndirect hhll =>
    exact (callPush_pushes s).runs.bind {} fun _ _ =>
      (readWord_runs _ _ _).map {} fun _ _ => (branch_within _ _).mono {}
  case returnPlain => exact retPop_runs s
  case returnException => exact exceptionReturn_runs s
  case returnSkip => exact (retPop_runs s).map {} fun _ _ => (setPc_within _ _).mono {}
  case softInterrupt kk => exact softInterrupt_runs kk s
  case noOperation => exact .ok (.refl _ s)
  case enterHalt | enterSleep => exact .ok (setStatus_within s _)

/-- The frame of an instruction: where it answers a next state, and SR does not cut the bus cycles it takes. -/
theorem exec_kept {i : Instr} {s t : State} (u : ((formOf i).frame s).onBus = true → s.uncut)
    (h : exec i s = .next t) :
    Kept ((formOf i).frame s).onBus s t ((formOf i).frame s).fields ((formOf i).frame s).flags
      ((formOf i).frame s).bytes := by
  have r := (formOf i).run_runs s
  obtain ⟨-, h | ⟨v, h, -⟩⟩ := exec_next.1 h
  · exact (r.within t h).kept
  · exact absurd h (r.noReset u v)

/-- The frames of the instructions of a table, read from the forms all at once. -/
theorem table_kept {ρ : Type} {rows : List ρ} {instr : ρ → Instr} {s : State} {F : ρ → Frame}
    (e : rows.map (fun r => (formOf (instr r)).frame s) = rows.map F) {r : ρ} (m : r ∈ rows) {t : State}
    (u : (F r).onBus = true → s.uncut) (h : exec (instr r) s = .next t) :
    Kept (F r).onBus s t (F r).fields (F r).flags (F r).bytes := by
  rw [← List.map_inj_left.1 e r m] at u ⊢
  exact exec_kept u h

/-! The frames of the tables of instructions. -/

section
open Rules

theorem frame_arith8Rows (n : Byte) (w : Word) (s : State) :
    (arith8Rows n w).map (fun r => (formOf r.instr).frame s) = (arith8Rows n w).map fun r =>
      ⟨r.left.onBus || r.right.onBus || r.dst.onBus, r.dst.fields, [.n, .v, .c, .z], r.dst.stored s⟩ := rfl

theorem frame_logic8Rows (n m : Byte) (w : Word) (s : State) :
    (logic8Rows n m w).map (fun r => (formOf r.instr).frame s) = (logic8Rows n m w).map fun r =>
      ⟨r.left.onBus || r.right.onBus || r.dst.onBus, r.dst.fields, [.n, .z], r.dst.stored s⟩ := rfl

theorem frame_complementRows (n : Byte) (s : State) :
    (complementRows n).map (fun r => (formOf r.instr).frame s) =
      (complementRows n).map fun r => ⟨r.loc.onBus, r.loc.fields, [.n, .z], r.loc.stored s⟩ := rfl

theorem frame_incDec8Rows (n : Byte) (s : State) :
    (inc8Rows n ++ dec8Rows n).map (fun r => (formOf r.instr).frame s) =
      (inc8Rows n ++ dec8Rows n).map fun r => ⟨r.loc.onBus, r.loc.fields, [.z], r.loc.stored s⟩ := rfl

theorem frame_shiftRows (n : Byte) (s : State) :
    (shiftRows n).map (fun r => (formOf r.instr).frame s) =
      (shiftRows n).map fun r => ⟨r.loc.onBus, r.loc.fields, shiftFlags r.op, r.loc.stored s⟩ := rfl

/-- For a table too long to compare at once. -/
theorem append_congr {α : Type} {x y x' y' : List α} (h : x = x') (k : y = y') : x ++ y = x' ++ y' := by
  rw [h, k]

theorem frame_load8Rows (n m : Byte) (w : Word) (s : State) :
    (load8Rows n m w).map (fun r => (formOf r.instr).frame s) =
      (load8Rows n m w).map fun r =>
        ⟨r.dst.onBus || r.src.onBus, r.dst.fields, r.dst.flags, r.dst.stored s⟩ := by
  simp only [load8Rows, List.map_append]
  iterate 5 refine append_congr ?_ rfl
  rfl

theorem frame_swapRows (s : State) :
    swapRows.map (fun r => (formOf r.instr).frame s) =
      swapRows.map fun r => ⟨r.loc.onBus, r.loc.fields, [], r.loc.stored s⟩ := rfl

theorem frame_compare8Rows (n m : Byte) (w : Word) (s : State) :
    (compare8Rows n m w).map (fun r => (formOf r.instr).frame s) =
      (compare8Rows n m w).map fun r => ⟨r.dst.onBus || r.src.onBus, [], [.n, .v, .c, .z], []⟩ := rfl

theorem frame_compare16Rows (w : Word) (s : State) :
    (compare16Rows w).map (fun r => (formOf r.instr).frame s) =
      (compare16Rows w).map fun r => ⟨r.right.onBus, [], [.n, .v, .c, .z], []⟩ := rfl

theorem frame_bitTestRows (n m : Byte) (s : State) :
    (bitTestRows n m).map (fun r => (formOf r.instr).frame s) =
      (bitTestRows n m).map fun r => ⟨r.dst.onBus || r.src.onBus, [], [.n, .z], []⟩ := rfl

theorem frame_load16Rows (n : Byte) (w : Word) (s : State) :
    (load16Rows n w).map (fun r => (formOf r.instr).frame s) =
      (load16Rows n w).map fun r => ⟨r.dst.onBus || r.src.onBus, r.dst.fields, [], r.dst.stored s⟩ := rfl

theorem frame_arith16Rows (w : Word) (s : State) :
    (arith16Rows w).map (fun r => (formOf r.instr).frame s) =
      (arith16Rows w).map fun r => ⟨r.src.onBus, r.dst.fields, [.n, .v, .c, .z], []⟩ := rfl

theorem frame_incDec16Rows (s : State) :
    (inc16Rows ++ dec16Rows).map (fun r => (formOf r.instr).frame s) =
      (inc16Rows ++ dec16Rows).map fun r => ⟨false, r.reg.fields, [.z], []⟩ := rfl

theorem frame_exchangeBaRows (s : State) :
    exchangeBaRows.map (fun r => (formOf r.instr).frame s) =
      exchangeBaRows.map fun r => ⟨false, Reg16.ba.fields ++ r.reg.fields, [], []⟩ := rfl

theorem frame_logicSc (nn : Byte) (s : State) :
    [Instr.andScImm nn, Instr.orScImm nn, Instr.xorScImm nn].map (fun i => (formOf i).frame s) =
      [Instr.andScImm nn, Instr.orScImm nn, Instr.xorScImm nn].map fun _ => ⟨false, [], Flag.all, []⟩ := rfl

theorem frame_pushRows (s : State) :
    pushRows.map (fun r => (formOf r.instr).frame s) = pushRows.map fun r => .pushes s (itemsSize r.items) := rfl

theorem frame_popRows (s : State) :
    popRows.map (fun r => (formOf r.instr).frame s) = popRows.map fun r => .pops r.items := rfl

theorem frame_jumpRows (n : Byte) (w : Word) (s : State) :
    (jumpRows n w).map (fun r => (formOf r.instr).frame s) =
      (jumpRows n w).map fun r => ⟨false, if r.cond.holds s then [.pc, .cb] else [.nb], [], []⟩ := rfl

theorem frame_callRows (n : Byte) (w : Word) (s : State) :
    (callRows n w).map (fun r => (formOf r.instr).frame s) = (callRows n w).map fun r =>
      ⟨r.cond.holds s, if r.cond.holds s then [.pc, .cb, .sp] else [.nb], [],
        if r.cond.holds s then belowSp s (callFrame s).length else []⟩ := rfl

/-- A bit that is not 1 is 0. -/
theorem even_eq_not_odd (n : Nat) : decide (n % 2 = 0) = !decide (n % 2 = 1) := by
  rcases Nat.mod_two_eq_zero_or_one n with h | h <;> simp [h]

/-- The conditions of R593 are the model's: F0 to F3 are bits of a number there, of a word here. -/
theorem conditionHolds_eq (s : State) (cond : Cond) : conditionHolds s cond = cond.holds s := by
  cases cond with
  | always | c | nc | z | nz | v | nv | p | m => simp [conditionHolds, Cond.holds]
  | lt | le => rfl
  | gt | ge =>
    simp only [conditionHolds, Cond.holds]
    generalize s.flag .n = n, s.flag .v = v, s.flag .z = z
    revert n v z
    decide
  | f0 | f1 | f2 | f3 => simp [conditionHolds, Cond.holds, BitVec.getLsbD, Nat.testBit_eq_decide_div_mod_eq]
  | nf0 | nf1 | nf2 | nf3 =>
    simp [conditionHolds, Cond.holds, BitVec.getLsbD, Nat.testBit_eq_decide_div_mod_eq, even_eq_not_odd]

end

/-! The obligations. -/

/-- Settles O32: every one of the 68 forms has the frame of its row. -/
theorem frameArith8 : Obligations.FrameArith8 := fun n w _ m s _ u h =>
  table_kept (frame_arith8Rows n w s) m (fun _ => u) h

/-- Settles O33: V is in no frame of a shift but of SLA and SRA (`shift8_runs`). -/
theorem frameLogicAndShift8 : Obligations.FrameLogicAndShift8 :=
  ⟨fun n m w _ r s _ u h => table_kept (frame_logic8Rows n m w s) r (fun _ => u) h,
    fun n _ r s _ u h => table_kept (frame_complementRows n s) r (fun _ => u) h,
    fun n _ r s _ u h => table_kept (frame_incDec8Rows n s) r (fun _ => u) h,
    fun n _ r s _ u h => table_kept (frame_shiftRows n s) r (fun _ => u) h⟩

/-- Settles O34: the flags of a destination are all eight where it is SC, else none. -/
theorem frameLoad8 : Obligations.FrameLoad8 :=
  ⟨fun n m w _ r s _ u h => table_kept (frame_load8Rows n m w s) r (fun _ => u) h,
    fun _ r s _ u h => table_kept (frame_swapRows s) r (fun _ => u) h⟩

/-- Settles O35: a comparison reads its operands and writes flags. -/
theorem frameCompare : Obligations.FrameCompare :=
  ⟨fun n m w _ r s _ u h => table_kept (frame_compare8Rows n m w s) r (fun _ => u) h,
    fun w _ r s _ u h => table_kept (frame_compare16Rows w s) r (fun _ => u) h,
    fun n m _ r s _ u h => table_kept (frame_bitTestRows n m s) r (fun _ => u) h⟩

/-- Settles O36: INC and DEC take no bus cycle, so that no reset can cut them. -/
theorem frameWord : Obligations.FrameWord :=
  ⟨fun n w _ r s _ u h => table_kept (frame_load16Rows n w s) r (fun _ => u) h,
    fun w _ r s _ u h => table_kept (frame_arith16Rows w s) r (fun _ => u) h,
    fun _ r s _ h => table_kept (frame_incDec16Rows s) r nofun h⟩

/-- DIV by a divisor that is not zero takes no bus cycle. -/
theorem exec_div_kept {s t : State} (a : s.a ≠ 0#8) (h : exec .div s = .next t) :
    Framed s t [.h, .l] [.n, .v, .c, .z] [] := by
  have e : (formOf .div).frame s = ⟨false, [.h, .l], [.n, .v, .c, .z], []⟩ := by
    rw [show formOf .div = .divide from rfl, Form.frame]
    simp [a]
  have k := exec_kept (by simp [e]) h
  rwa [e] at k

/-- DIV by zero has the frame of its exception entry, and the flags of R652. -/
theorem exec_div_zero_kept {s t : State} (a : s.a = 0#8) (u : s.uncut) (h : exec .div s = .next t) :
    Kept true s t [.pc, .sp, .cb, .status, .zdivPending, .iackLow] [.n, .v, .c, .z]
      (belowSp s (exceptionFrame s).length) := by
  have e : (formOf .div).frame s = ⟨true, [.pc, .sp, .cb, .status, .zdivPending, .iackLow], [.n, .v, .c, .z],
      belowSp s (exceptionFrame s).length⟩ := by
    rw [show formOf .div = .divide from rfl, Form.frame]
    simp [a]
  have k := exec_kept (fun _ => u) h
  rwa [e] at k

/-- Settles O37: DIV has one frame for a zero divisor, that of its exception entry, and one for every other. -/
theorem frameFixedOperands : Obligations.FrameFixedOperands := fun s _ =>
  ⟨exec_kept nofun, fun u => exec_kept fun _ => u, fun _ r h => table_kept (frame_exchangeBaRows s) r nofun h,
    exec_kept nofun, exec_kept nofun, exec_kept nofun, exec_kept nofun, exec_div_kept, exec_div_zero_kept,
    fun nn _ r h => table_kept (frame_logicSc nn s) r nofun h⟩

/-- Settles O38: `n` bytes pushed are the `n` below SP (`Pushes`). -/
theorem frameStack : Obligations.FrameStack :=
  ⟨fun _ r s _ u h => table_kept (frame_pushRows s) r (fun _ => u) h,
    fun _ r s _ u h => table_kept (frame_popRows s) r (fun _ => u) h⟩

/-- Settles O39: a branch has one frame where it is taken and one where it is not. -/
theorem frameBranch : Obligations.FrameBranch := by
  refine ⟨fun n w _ r s t h => ?_, fun n w _ r s t u h => ?_, fun s t n w => ⟨exec_kept nofun, exec_kept nofun,
    fun u => exec_kept fun _ => u, fun u => exec_kept fun _ => u, fun u => exec_kept fun _ => u,
    fun u => exec_kept fun _ => u, fun u => exec_kept fun _ => u, fun u => exec_kept fun _ => u⟩⟩
  · rw [conditionHolds_eq]
    exact table_kept (frame_jumpRows n w s) r nofun h
  · rw [conditionHolds_eq]
    exact table_kept (frame_callRows n w s) r (fun _ => u) h

/-- Only the frames of the instructions of R29 have D, U, I1 or I0. -/
theorem modeFlags_or_wholeSc (i : Instr) (s : State) :
    ((formOf i).frame s).flags.all (fun g => decide (g ∈ [.n, .v, .c, .z])) = true ∨
      ∃ n, i ∈ Rules.wholeScWriters n := by
  cases i with
  | andScImm n | orScImm n | xorScImm n | ldScImm n => exact .inr ⟨n, by simp [Rules.wholeScWriters]⟩
  | ldScA | popSc | rete => exact .inr ⟨0#8, by simp [Rules.wholeScWriters]⟩
  | _ => exact .inl rfl

/-- Settles O58: the four are in no frame but those of R29. -/
theorem modeFlagsKept : Obligations.ModeFlagsKept := by
  intro i s t n u h
  have f := List.all_eq_true.1 ((modeFlags_or_wholeSc i s).resolve_right fun ⟨m, e⟩ => n m e)
  obtain ⟨-, k, -⟩ := kept_iff.1 (exec_kept (fun _ => u) h)
  exact ⟨k .d fun e => by simpa using f _ e, k .u fun e => by simpa using f _ e,
    k .i1 fun e => by simpa using f _ e, k .i0 fun e => by simpa using f _ e⟩

/-- Settles O46: `State.reset` holds the values of the reset table; its status is not the transitive one. -/
theorem resetState : Obligations.ResetState :=
  ⟨rfl, rfl, rfl, rfl, rfl, rfl, rfl, rfl, rfl, rfl, rfl, rfl, rfl, rfl, rfl, rfl, rfl, fun _ => rfl,
    reset_mem_wf, nofun, rfl⟩

end Sys2Proof.Machine
end

section
/-! From the bytes at PC to the instruction (R27, R100, R102): no proper part of an encoding decodes, so that the fetch reads exactly the bytes of one instruction. -/

namespace Sys2Proof.Machine

open Rules

/-! The encoding of an instruction. -/

/-- The bytes of an op-code. -/
def opBytes : OpCode → List Byte
  | .one b => [b]
  | .ce b => [0xCE#8, b]
  | .cf b => [0xCF#8, b]

/-- The cell of an op-code in its map. -/
def cellOf : OpCode → Cell
  | .one b => cellAt pageFirst b
  | .ce b => cellAt pageCE b
  | .cf b => cellAt pageCF b

/-- The operand bytes that make the instruction of a cell. -/
inductive Spells : Instr → Cell → List Byte → Prop
  | plain (i : Instr) : Spells i (.plain i) []
  | byte (f : Byte → Instr) (n : Byte) : Spells (f n) (.byte f) [n]
  | word (f : Word → Instr) (w : Word) : Spells (f w) (.word f) [loByte w, hiByte w]
  | bytes (f : Byte → Byte → Instr) (n m : Byte) : Spells (f n m) (.bytes f) [n, m]

/-- Each instruction stands in the cell of its op-code, and is encoded by the op-code and its operand bytes. -/
theorem encode_spells (i : Instr) :
    ∃ l, encode i = opBytes (opcodeOf i) ++ l ∧ Spells i (cellOf (opcodeOf i)) l := by
  cases i <;> exact ⟨_, rfl, by constructor⟩

/-- The operand bytes give the instruction. -/
theorem Spells.operands {i : Instr} {c : Cell} {l : List Byte} (h : Spells i c l) (e : DecodeError) :
    c.operands e l = .ok (i, []) := by
  cases h with
  | word f w => simp [Cell.operands]
  | _ => rfl

/-- Fewer of them are too few. -/
theorem Spells.truncated {i : Instr} {c : Cell} {p q : List Byte} (h : Spells i c (p ++ q)) (n : q ≠ [])
    (e : DecodeError) : c.operands e p = .error .truncated := by
  generalize hl : p ++ q = l at h
  have short : p.length < l.length := by
    rw [← hl, List.length_append]
    exact Nat.lt_add_of_pos_right (List.length_pos_iff.2 n)
  cases h with
  | plain => simp at short
  | byte f x =>
    match p, short with
    | [], _ => rfl
  | word | bytes =>
    match p, short with
    | [], _ => rfl
    | [_], _ => rfl

/-- Behind an op-code of the map the decoder reads the operands of its cell: CEH and CFH have no cell of their own. -/
theorem decode_opBytes {i : Instr} {op : OpCode} {l : List Byte} (h : Spells i (cellOf op) l) (p : List Byte) :
    ∃ e, decode (opBytes op ++ p) = (cellOf op).operands e p := by
  cases op with
  | one b =>
    have hce : b ≠ 0xCE#8 := by rintro rfl; cases h
    have hcf : b ≠ 0xCF#8 := by rintro rfl; cases h
    exact ⟨_, by simp only [opBytes, List.singleton_append, decode, hce, hcf, if_false]; rfl⟩
  | ce b => exact ⟨_, rfl⟩
  | cf b => exact ⟨_, rfl⟩

/-- The bytes of an instruction decode to it. -/
theorem decode_encode_self (i : Instr) : decode (encode i) = .ok (i, []) := by
  obtain ⟨l, hl, h⟩ := encode_spells i
  obtain ⟨e, he⟩ := decode_opBytes h l
  rw [hl, he, h.operands]

/-- So are the first bytes of an op-code. -/
theorem decode_opPart {op : OpCode} {p r : List Byte} (h : opBytes op = p ++ r) (n : r ≠ []) :
    decode p = .error .truncated := by
  have short : p.length < (opBytes op).length := by
    rw [h, List.length_append]
    exact Nat.lt_add_of_pos_right (List.length_pos_iff.2 n)
  cases op with
  | one b =>
    match p, short with
    | [], _ => rfl
  | ce b | cf b =>
    match p, short, h with
    | [], _, _ => rfl
    | [x], _, h => cases h; rfl

/-- The first bytes of an instruction, not all of them, are too few. -/
theorem decode_part {i : Instr} {p q : List Byte} (h : encode i = p ++ q) (n : q ≠ []) :
    decode p = .error .truncated := by
  obtain ⟨l, hl, k⟩ := encode_spells i
  rcases List.append_eq_append_iff.1 (hl.symm.trans h) with ⟨r, rfl, rfl⟩ | ⟨r, hr, rfl⟩
  · obtain ⟨e, he⟩ := decode_opBytes k r
    rw [he, k.truncated n]
  · cases r with
    | nil =>
      obtain ⟨e, he⟩ := decode_opBytes k []
      rw [← (hr.trans (List.append_nil p)), ← List.append_nil (opBytes _), he, k.truncated (p := []) n]
    | cons x r => exact decode_opPart hr (List.cons_ne_nil x r)

/-- The longest instruction has four bytes (R100). -/
theorem encode_length_le (i : Instr) : (encode i).length ≤ 4 := by
  obtain ⟨l, hl, h⟩ := encode_spells i
  have ho : (opBytes (opcodeOf i)).length ≤ 2 := by cases opcodeOf i <;> simp [opBytes]
  have hs : l.length ≤ 2 := by
    generalize cellOf (opcodeOf i) = c at h
    cases h <;> simp
  rw [hl, List.length_append]
  omega

theorem encode_ne_nil (i : Instr) : encode i ≠ [] := by
  obtain ⟨l, hl, -⟩ := encode_spells i
  rw [hl]
  cases opcodeOf i <;> simp [opBytes]

/-! The fetch. -/

/-- Where the bytes of an instruction that are still to be read stand from `a` on, the fetch reads them and no more. -/
theorem fetchFrom_bytesAt {i : Instr} {t : State} (rest : List Byte) {n : Nat} {got : List Byte} {a : Word}
    {s : State} (he : encode i = got ++ rest) (hr : rest ≠ []) (hn : rest.length ≤ n) (h : bytesAt rest a s t) :
    fetchFrom n got a s = .ok (i, t) := by
  induction rest generalizing n got a s with
  | nil => exact absurd rfl hr
  | cons b rest ih =>
    obtain ⟨u, hu, ht⟩ := h
    rw [List.append_cons] at he
    match n, hn with
    | n + 1, hn =>
      refine bind_ok.2 ⟨(b, u), hu, ?_⟩
      cases rest with
      | nil =>
        cases ht
        simp only [← (he.trans (List.append_nil _)), decode_encode_self]
      | cons c rest =>
        simp only [decode_part he (List.cons_ne_nil c rest)]
        exact ih he (List.cons_ne_nil c rest) (Nat.le_of_succ_le_succ hn) ht

/-- Where the bytes of an instruction stand at PC, it is the one that is fetched. -/
theorem fetchInstr_fetches {s t : State} {i : Instr} (h : fetches s i t) : fetchInstr s = .ok (i, t) :=
  fetchFrom_bytesAt (encode i) rfl (encode_ne_nil i) (encode_length_le i) h

/-! The fetch behind a sampling point that takes nothing. -/

theorem hold_idlePoint (s : State) (a : Addr) (v : Byte) : (idlePoint s).hold a v = idlePoint (s.hold a v) := by
  have k : (idlePoint s).kindAt a = s.kindAt a := rfl
  unfold State.hold
  rw [k]
  cases s.kindAt a <;> rfl

theorem masterAccess_idlePoint (s : State) (x : MasterAccess) :
    masterAccess (idlePoint s) x = idlePoint (masterAccess s x) := by
  cases x with
  | read a => rfl
  | write a v => simp only [masterAccess, hold_idlePoint]; rfl

theorem masterAccesses_idlePoint (l : List MasterAccess) (s : State) :
    l.foldl masterAccess (idlePoint s) = idlePoint (l.foldl masterAccess s) := by
  induction l generalizing s with
  | nil => rfl
  | cons x l ih => rw [List.foldl_cons, masterAccess_idlePoint, ih, List.foldl_cons]

/-- A bus cycle knows nothing of the hold-off and of IACK. -/
theorem busCycle_idlePoint {s t : State} {d : Option Byte} (h : busCycle s = .ok (t, d)) :
    busCycle (idlePoint s) = .ok (idlePoint t, d) := by
  rcases busCycle_ok.1 h with ⟨hb, rfl, rfl⟩ | ⟨c, rest, hb, hc, rfl, rfl⟩
  · exact busCycle_ok.2 (.inl ⟨hb, rfl, rfl⟩)
  · exact busCycle_ok.2 (.inr ⟨c, rest, hb, hc, (masterAccesses_idlePoint c.master (s.setBus rest)).symm, rfl⟩)

theorem readByte_idlePoint {s t : State} {a : Addr} {v : Byte} (h : readByte s a = .ok (v, t)) :
    readByte (idlePoint s) a = .ok (v, idlePoint t) := by
  obtain ⟨u, d, hb, hf, rfl⟩ := readByte_ok.1 h
  exact readByte_ok.2 ⟨idlePoint u, d, busCycle_idlePoint hb, hf, rfl⟩

theorem bytesAt_idlePoint {l : List Byte} {a : Word} {s t : State} (h : bytesAt l a s t) :
    bytesAt l a (idlePoint s) (idlePoint t) := by
  induction l generalizing a s with
  | nil => exact congrArg idlePoint h
  | cons b l ih =>
    obtain ⟨u, hu, ht⟩ := h
    exact ⟨idlePoint u, readByte_idlePoint hu, ih ht⟩

/-! The step. -/

/-- Where nothing intervenes, the step is the instruction at PC. -/
theorem step_runs {s : State} (h : runs (latchInputs s)) :
    step s = runInstruction exec (idlePoint (latchInputs s)) := by
  obtain ⟨hsr, hst, hbreq, hf⟩ := h
  simp [step, boundary, hsr, hst, hbreq, hf]

/-- The step behind the fetch of an instruction that faults. -/
theorem step_of_fault {s u : State} {i : Instr} {r : Fault} (h : runs (latchInputs s))
    (f : fetches (latchInputs s) i u) (e : exec i (begun u i) = .fault r) : step s = .fault r := by
  have k : exec i (advance i (idlePoint u)) = .fault r := e
  simp only [step_runs h, runInstruction, fetchInstr_fetches (s := idlePoint (latchInputs s)) (bytesAt_idlePoint f), k]

/-- The step behind the fetch of an instruction that answers: the end of the instruction. -/
theorem step_of_next {s t u : State} {i : Instr} (h : runs (latchInputs s)) (f : fetches (latchInputs s) i u)
    (e : exec i (begun u i) = .next t) : step s = conclude (finish i (begun u i) t) := by
  have k : exec i (advance i (idlePoint u)) = .next t := e
  simp only [step_runs h, runInstruction, fetchInstr_fetches (s := idlePoint (latchInputs s)) (bytesAt_idlePoint f), k]
  rfl

theorem latchInputs_cfg (s : State) : (latchInputs s).cfg = s.cfg := by
  unfold latchInputs latchNmi samplePins
  cases s.schedule with
  | nil => rfl
  | cons p rest => cases h : p.nmiEdge <;> simp [h]

theorem bytesAt_access {l : List Byte} {a : Word} {s t : State} (h : bytesAt l a s t) : Access s t [] := by
  induction l generalizing a s with
  | nil => cases h; exact Access.refl t
  | cons b l ih =>
    obtain ⟨u, hu, ht⟩ := h
    exact (readByte_access hu).trans (ih ht)

/-- The end of an instruction in whose midst no reset came: the fault of U10, or the hold-off set or left. -/
theorem finish_of_started {i : Instr} {s t : State} (h : t.status ≠ .reset) :
    finish i s t =
      if overlapped i s t then
        .error (.fault (.overlappedStore (progAddr s s.pc)
          (if opcodeOf i ∈ s.cfg.holdoffSet then t.setIntHoldoff true else t)))
      else .ok (if opcodeOf i ∈ s.cfg.holdoffSet then t.setIntHoldoff true else t) := by
  rw [finish, if_neg h]

/-- Settles O44: the fetch reads the bytes of `i` and no more (`fetchInstr_fetches`), then the step is `exec` and `finish`. -/
theorem stepRunsDecoded : Obligations.StepRunsDecoded := by
  intro s u i h f
  have hc : (begun u i).cfg = s.cfg := (bytesAt_access f).cfg.trans (latchInputs_cfg s)
  refine ⟨fun r e => step_of_fault h f e, fun r => exec_refused, fun t e n o => ?_, fun t e n o => ?_,
    fun t e n => ?_⟩
  · rw [step_of_next h f e, finish_of_started n, o, hc]
    rfl
  · rw [step_of_next h f e, finish_of_started n, o, hc]
    rfl
  · rw [step_of_next h f e, finish, if_pos n, conclude]

end Sys2Proof.Machine
end

section
/-! The invariant of a step (R60, R652, R702): canonical memory, no zero division waiting, a settled status, and the parameters of the device. -/

namespace Sys2Proof.Machine

/-- What every outcome of a step from `s` leaves; an answer is also settled, a fault may stop in an exception processing sequence (log 33). No outcome is a refusal. -/
inductive OutcomeKeeps (s : State) : Host.Outcome State Fault Refusal → Prop
  | next {t : State} (h : Leaves s t) (n : t.settled) : OutcomeKeeps s (.next t)
  | fault {f : Fault} (h : Leaves s f.state) : OutcomeKeeps s (.fault f)

/-- From a later state. -/
theorem OutcomeKeeps.after {s t : State} {o : Host.Outcome State Fault Refusal} (h : Leaves s t)
    (k : OutcomeKeeps t o) : OutcomeKeeps s o := by
  cases k with
  | next k n => exact .next (h.trans k) n
  | fault k => exact .fault (h.trans k)

/-- A status that is not the transitive one is set. -/
theorem outcomeKeeps_setStatus (s : State) {v : Status} (n : v ≠ .exception) :
    OutcomeKeeps s (.next (s.setStatus v)) :=
  .next (setStatus_leaves s v) n

theorem resetAssert_zdivPending (s : State) : (resetAssert s).zdivPending = false := by
  unfold resetAssert; split <;> rfl

/-- A reset leaves memory and the device, and forgets a waiting zero division (D20). -/
theorem resetAssert_leaves (s : State) : Leaves s (resetAssert s) := by
  obtain ⟨hm, hc, -⟩ := resetAssert_frame s
  exact ⟨fun w => hm ▸ w, hc, fun _ => resetAssert_zdivPending s⟩

theorem outcomeKeeps_resetAssert (s : State) : OutcomeKeeps s (.next (resetAssert s)) := by
  obtain ⟨-, -, -, -, -, -, hs⟩ := resetAssert_frame s
  exact .next (resetAssert_leaves s) (by simp [State.settled, hs])

/-- An operation that ends early: its fault, or the reset that cuts it. -/
theorem outcomeKeeps_stop {s : State} {e : Stop} (h : Leaves s e.state) : OutcomeKeeps s (conclude (.error e)) := by
  cases e with
  | fault f => exact .fault h
  | reset u => exact .after h (outcomeKeeps_resetAssert u)

/-- An operation that answers a settled state, or ends early. -/
theorem outcomeKeeps_conclude {s : State} {r : Result State} (h : ∀ t, r = .ok t → Leaves s t ∧ t.settled)
    (k : StopLeaves s r) : OutcomeKeeps s (conclude r) := by
  cases r with
  | ok t => exact .next (h t rfl).1 (h t rfl).2
  | error e => exact outcomeKeeps_stop (k e rfl)

/-! Instructions. -/

/-- An instruction whose status is settled before it. -/
theorem exec_outcomeKeeps (i : Instr) {s : State} (h : s.settled) : OutcomeKeeps s (exec i s) := by
  cases e : exec i s with
  | next t =>
    obtain ⟨-, k | ⟨u, k, rfl⟩⟩ := exec_next.1 e
    · exact .next (Form.run_keeps k).leaves ((Form.run_keeps k).settled h)
    · exact .after (Form.run_stop _ s _ k) (outcomeKeeps_resetAssert u)
  | fault f => exact .fault (exec_fault_leaves e)
  | refused r => exact absurd e exec_refused

theorem setIntHoldoff_leaves (s : State) (v : Bool) : Leaves s (s.setIntHoldoff v) := ⟨id, rfl, id⟩

/-- The end of an instruction sets the hold-off at most, and faults in the state so reached (U10). -/
theorem finish_outcomeKeeps (i : Instr) (s : State) {t : State} (h : t.settled) :
    OutcomeKeeps t (conclude (finish i s t)) := by
  by_cases n : t.status = .reset
  · rw [finish, if_pos n]
    exact .next (.refl t) h
  · have k : Leaves t (if opcodeOf i ∈ s.cfg.holdoffSet then t.setIntHoldoff true else t) ∧
        (if opcodeOf i ∈ s.cfg.holdoffSet then t.setIntHoldoff true else t).settled := by
      split
      · exact ⟨setIntHoldoff_leaves t true, h⟩
      · exact ⟨.refl t, h⟩
    rw [finish_of_started n]
    split
    · exact .fault k.1
    · exact .next k.1 k.2

theorem fetchInstr_stop (s : State) : StopLeaves s (fetchInstr s) := fetchFrom_stop _ _ _ _

theorem advance_keeps (i : Instr) (s : State) : Keeps s (advance i s) := .of_same rfl rfl rfl rfl rfl rfl

/-- Fetch, meaning and end of one instruction. -/
theorem runInstruction_outcomeKeeps {s : State} (h : s.settled) : OutcomeKeeps s (runInstruction exec s) := by
  unfold runInstruction
  cases f : fetchInstr s with
  | error e => exact outcomeKeeps_stop (fetchInstr_stop s e f)
  | ok p =>
    obtain ⟨i, u⟩ := p
    have a : Keeps s (advance i u) := (fetchInstr_access f).keeps.trans (advance_keeps i u)
    have k := exec_outcomeKeeps i (a.settled h)
    refine .after a.leaves ?_
    dsimp only
    generalize exec i (advance i u) = o at k
    cases k with
    | next k n => exact .after k (finish_outcomeKeeps i _ n)
    | fault k => exact .fault k

/-! The boundary. -/

theorem busMaster_keeps (s : State) : Keeps s (busMaster s) := (busMaster_access s).keeps

theorem clearLatch_leaves (f : Factor) (s : State) : Leaves s (clearLatch f s) := by
  cases f with
  | zeroDivision => exact ⟨id, rfl, fun _ => rfl⟩
  | _ => exact ⟨id, rfl, id⟩

/-- An exception entry ends in the status run, whatever status it comes from. -/
theorem accept_outcomeKeeps (f : Factor) (s : State) : OutcomeKeeps s (accept f s) := by
  refine .after (clearLatch_leaves f s) (outcomeKeeps_conclude (fun t h => ?_) (exceptionEntry_stop f _))
  obtain ⟨k, hs⟩ := exceptionEntry_keeps h
  exact ⟨k.leaves, by simp [State.settled, hs]⟩

theorem resetRelease_outcomeKeeps (s : State) : OutcomeKeeps s (conclude (resetRelease s)) := by
  refine outcomeKeeps_conclude (fun t h => ?_) (resetRelease_stop s)
  obtain ⟨k, hs⟩ := resetRelease_keeps h
  exact ⟨k.leaves, by simp [State.settled, hs]⟩

theorem idlePoint_leaves (s : State) : Leaves s (idlePoint s) := ⟨id, rfl, id⟩

theorem wait_outcomeKeeps {s : State} (h : s.settled) : OutcomeKeeps s (wait s) := .next (idlePoint_leaves s) h

theorem releaseBus_outcomeKeeps (fromHalt : Bool) (s : State) : OutcomeKeeps s (releaseBus fromHalt s) :=
  have k : Leaves s ((busMaster s).setIackLow false) := (busMaster_keeps s).leaves.trans ⟨id, rfl, id⟩
  .after k (outcomeKeeps_setStatus (v := .busReleased fromHalt) _ nofun)

/-- What the CPU does at a boundary, by its status (R702): SR LOW before all of it. -/
theorem boundary_outcomeKeeps (s : State) : OutcomeKeeps s (boundary exec s) := by
  unfold boundary
  split
  · exact outcomeKeeps_resetAssert s
  have settled {v : Status} (h : s.status = v) (n : v ≠ .exception) : s.settled := by
    rwa [State.settled, h]
  cases st : s.status with
  | reset => exact resetRelease_outcomeKeeps s
  | exception => exact outcomeKeeps_setStatus s nofun
  | busReleased fromHalt =>
    dsimp only
    split
    · exact .next (busMaster_keeps s).leaves ((busMaster_keeps s).settled (settled st nofun))
    · exact outcomeKeeps_setStatus s (by split <;> nofun)
  | run =>
    cases pendingFactor s with
    | some f => exact accept_outcomeKeeps f s
    | none =>
      dsimp only
      split
      · exact releaseBus_outcomeKeeps false s
      · exact .after (idlePoint_leaves s) (runInstruction_outcomeKeeps (settled (v := .run) st nofun))
  | halt =>
    cases pendingFactor s with
    | some f => exact accept_outcomeKeeps f s
    | none =>
      dsimp only
      split
      · exact releaseBus_outcomeKeeps true s
      · exact wait_outcomeKeeps (settled st nofun)
  | sleep =>
    cases pendingFactor s with
    | some f => exact .after (sealBus_access s).keeps.leaves (accept_outcomeKeeps f _)
    | none => exact wait_outcomeKeeps (settled st nofun)

theorem latchInputs_leaves (s : State) : Leaves s (latchInputs s) := by
  have hm : (latchInputs s).mem = s.mem ∧ (latchInputs s).zdivPending = s.zdivPending := by
    unfold latchInputs latchNmi samplePins
    cases s.schedule with
    | nil => exact ⟨rfl, rfl⟩
    | cons p rest => cases h : p.nmiEdge <;> simp [h]
  exact ⟨fun w => hm.1 ▸ w, latchInputs_cfg s, fun w => hm.2 ▸ w⟩

/-- Every step, from a state of any status. -/
theorem step_outcomeKeeps (s : State) : OutcomeKeeps s (step s) :=
  .after (latchInputs_leaves s) (boundary_outcomeKeeps _)

/-- Settles O45: what `step_outcomeKeeps` says of an answer and of a fault. -/
theorem stepKeepsInvariant : Obligations.StepKeepsInvariant := by
  refine ⟨fun s t ⟨hw, _, hz⟩ h => ?_, fun s f ⟨hw, _, hz⟩ h => ?_⟩
  all_goals have o := h ▸ step_outcomeKeeps s
  · obtain ⟨k, n⟩ := o
    exact ⟨⟨k.wf hw, n, k.zdiv hz⟩, k.cfg⟩
  · obtain ⟨_⟩ | ⟨k⟩ := o
    exact ⟨k.wf hw, k.zdiv hz, k.cfg⟩

end Sys2Proof.Machine
end

section
/-! Addresses as numbers (R62 to R64, R72, R110 to R113). -/

namespace Sys2Proof.Machine

/-! Words as numbers. -/

/-- The higher part of a concatenation counts in units of the lower one. -/
theorem append_toNat {n m : Nat} (x : BitVec n) (y : BitVec m) : (x ++ y).toNat = 2 ^ m * x.toNat + y.toNat := by
  rw [BitVec.toNat_append, ← Nat.shiftLeft_add_eq_or_of_lt y.isLt, Nat.shiftLeft_eq, Nat.mul_comm]

theorem pair_toNat (h l : Byte) : (pair h l).toNat = 256 * h.toNat + l.toNat := append_toNat h l

/-- A displacement is signed data, and the sum stays in the page (D2). -/
theorem add_sext16_toNat (x : Word) (d : Byte) :
    (x + sext16 d).toNat = (((x.toNat : Int) + d.toInt) % 65536).toNat := by
  have hd : (sext16 d).toNat = (d.toInt % 65536).toNat := BitVec.toNat_ofInt (n := 16) d.toInt
  rw [BitVec.toNat_add, hd]
  omega

/-! Addresses. -/

/-- The models with expansion registers (R3). -/
theorem hasExpansion_iff (m : CpuModel) : m.hasExpansion = true ↔ m = .model2 ∨ m = .model3 := by
  cases m <;> decide

/-- A page and an offset (R62); MODEL0 and MODEL1 have the offset alone (D9). -/
theorem dataAddr_toNat (s : State) (page : Byte) (a : Word) :
    (dataAddr s page a).toNat =
      if s.cfg.model = .model2 ∨ s.cfg.model = .model3 then 65536 * page.toNat + a.toNat % 65536
      else a.toNat % 65536 := by
  rw [Nat.mod_eq_of_lt a.isLt]
  simp only [dataAddr, hasExpansion_iff]
  split
  · exact append_toNat page a
  · exact BitVec.toNat_setWidth_of_le (by omega)

/-- The bank counts in the upper half of the program space (R63). -/
theorem progAddr_toNat (s : State) (a : Word) :
    (progAddr s a).toNat =
      if s.cfg.model = .model2 ∨ s.cfg.model = .model3 then
        if 32768 ≤ a.toNat then 32768 * s.cb.toNat + (a.toNat - 32768) else a.toNat
      else a.toNat := by
  have upper : a.getLsbD 15 = decide (32768 ≤ a.toNat) := BitVec.msb_eq_decide a
  have lower : (a.extractLsb' 0 15).toNat = a.toNat % 32768 := by simp
  have bound := a.isLt
  simp only [progAddr, hasExpansion_iff, upper, decide_eq_true_eq]
  split
  · split <;> simp only [append_toNat, lower, BitVec.toNat_ofNat] <;> omega
  · exact BitVec.toNat_setWidth_of_le (by omega)

/-- Settles O48: every operand has a page and an offset, and its offset is a word or a sum of words. -/
theorem effectiveAddresses : Obligations.EffectiveAddresses := by
  intro s page dd ll a hhll paged plus
  have ea (m : MemOp) (n : Nat) (h : (m.offset s).toNat = n) : (m.ea s).toNat = paged (m.page s) n :=
    h ▸ dataAddr_toNat s _ _
  exact ⟨dataAddr_toNat s page a, dataAddr_toNat s _ a, progAddr_toNat s a, ea .hl _ (pair_toNat _ _), ea .ix _ rfl,
    ea .iy _ rfl, ea (.br ll) _ (pair_toNat _ _), ea (.abs hhll) _ rfl, ea (.ixd dd) _ (add_sext16_toNat _ _),
    ea (.iyd dd) _ (add_sext16_toNat _ _), ea (.spd dd) _ (add_sext16_toNat _ _), ea .ixl _ (add_sext16_toNat _ _),
    ea .iyl _ (add_sext16_toNat _ _)⟩

end Sys2Proof.Machine
end

section
/-! Which accesses stop, and what a device answers (R70, R74, U7, U9, D8). -/

namespace Sys2Proof.Machine

/-! What a read finds, by the kind of the address. -/

theorem found_memory {s : State} {a : Addr} (k : s.kindAt a = .ram ∨ s.kindAt a = .rom) (d : Option Byte) :
    s.found d a = s.byteAt a := by
  rcases k with k | k <;> simp only [State.found, k, State.byteAt]

theorem found_unreadable {s : State} {a : Addr} (k : s.kindAt a = .writeOnly ∨ s.kindAt a = .nothing)
    (d : Option Byte) : s.found d a = none := by
  rcases k with k | k <;> simp only [State.found, k]

/-- A device answers with the byte that comes with the access, else by its function of the accesses before it (D8). -/
theorem found_io {s : State} {a : Addr} (k : s.kindAt a = .io) (d : Option Byte) :
    s.found d a = some (deviceByte s d a) := by
  simp only [State.found, k]

theorem readFault_memory {s : State} {a : Addr} (k : s.kindAt a = .ram ∨ s.kindAt a = .rom) :
    s.readFault a = .unwrittenByte a s := by
  rcases k with k | k <;> simp only [State.readFault, k]

theorem readFault_unreadable {s : State} {a : Addr} (k : s.kindAt a = .writeOnly ∨ s.kindAt a = .nothing) :
    s.readFault a = .unreadable a s := by
  rcases k with k | k <;> simp only [State.readFault, k]

/-- A read that finds no byte stops behind its break-point. -/
theorem readByte_not_found {s u : State} {d : Option Byte} {a : Addr} (h : busCycle s = .ok (u, d))
    (f : u.found d a = none) : readByte s a = .error (.fault (u.readFault a)) := by
  simp only [readByte, h, bind, Except.bind, f]

/-- A device gets a byte through the trace alone (R74). -/
theorem hold_io {s : State} {a : Addr} (k : s.kindAt a = .io) (v : Byte) : s.hold a v = s := by
  simp only [State.hold, k]

theorem hold_trace (s : State) (a : Addr) (v : Byte) : (s.hold a v).trace = s.trace := by
  unfold State.hold
  split <;> rfl

/-- Settles O50: a break-point leaves the kind of an address, and the kind says what a read finds. -/
theorem memoryStops : Obligations.MemoryStops := by
  refine ⟨fun s u d a h => ?_, fun s q => busCycle_ok.2 (.inl ⟨q, rfl, rfl⟩)⟩
  rw [← (busCycle_access h).kindAt a]
  refine ⟨fun k f => ?_, fun v k f => ?_, fun k => ?_, fun k v hv => ?_, fun v => ?_⟩
  · rw [readByte_not_found h ((found_memory k d).trans f), readFault_memory k]
  · exact readByte_ok.2 ⟨u, d, h, (found_memory k d).trans f, rfl⟩
  · rw [readByte_not_found h (found_unreadable k d), readFault_unreadable k]
  · have e : deviceByte u d a = v := by cases d <;> exact hv.symm
    exact readByte_ok.2 ⟨u, d, h, e ▸ found_io k d, rfl⟩
  · refine ⟨_, writeByte_ok.2 ⟨u, d, h, rfl⟩, ?_, fun k => ?_⟩
    · simp only [State.record, State.setTrace_trace, hold_trace]
    · rw [hold_io k]

end Sys2Proof.Machine
end

section
/-! Registers on the stack (R65, R550 to R566): a push or pop of several registers is put together from those of one. -/

namespace Sys2Proof.Machine

open Rules

/-- SP, which a push or a pop itself changes, is none of the registers. -/
abbrev ApartSp (is : List Item) : Prop := .word .sp ∉ is

/-! PUSH. -/

theorem pushed_append (x y : List Byte) (s : State) : pushed (x ++ y) s = pushed y (pushed x s) := by
  induction x generalizing s with
  | nil => rfl
  | cons v x ih => exact ih _

theorem pushed_uncut {s : State} (u : s.uncut) (l : List Byte) : (pushed l s).uncut := by
  induction l generalizing s with
  | nil => exact u
  | cons v l ih => exact ih ((put_access (s := s.setSp (s.sp - 1#16)) u _ v).uncut u)

/-- Pushes change SP, and what bus cycles change. -/
theorem pushed_same {s : State} (u : s.uncut) (l : List Byte) {α : Type} (f : State → α)
    (onBus : ∀ t m b e, f (((State.setMem t m).setBus b).setTrace e) = f t)
    (onSp : ∀ t v, f (State.setSp t v) = f t) :
    f (pushed l s) = f s := by
  induction l generalizing s with
  | nil => rfl
  | cons v l ih =>
    have k := put_access (s := s.setSp (s.sp - 1#16)) u (stackAddr s (s.sp - 1#16)) v
    exact (ih (k.uncut u)).trans ((k.same f onBus).trans (onSp s _))

theorem itemsBytes_append (s : State) (is js : List Item) :
    itemsBytes s (is ++ js) = itemsBytes s is ++ itemsBytes s js := by
  induction is with
  | nil => rfl
  | cons i is ih => cases i <;> simp [itemsBytes, ih]

/-- The bytes of registers are those registers' alone. -/
theorem itemsBytes_congr {s t : State} (h8 : ∀ r, t.get8 r = s.get8 r) (h16 : ∀ r, r ≠ .sp → t.get16 r = s.get16 r)
    {is : List Item} (n : ApartSp is) : itemsBytes t is = itemsBytes s is := by
  induction is with
  | nil => rfl
  | cons i is ih =>
    have rest := ih fun m => n (List.mem_cons_of_mem _ m)
    cases i with
    | byte r => simp only [itemsBytes, h8, rest]
    | word r =>
      have e := h16 r (by rintro rfl; exact n List.mem_cons_self)
      simp only [itemsBytes, e, rest]

/-- The registers pushed next still have their values. -/
theorem itemsBytes_pushed {s : State} (u : s.uncut) (l : List Byte) {is : List Item} (n : ApartSp is) :
    itemsBytes (pushed l s) is = itemsBytes s is := by
  refine itemsBytes_congr (fun r => ?_) (fun r hr => ?_) n
  · exact pushed_same u l (·.get8 r) (fun _ _ _ _ => by cases r <;> rfl) (fun _ _ => by cases r <;> rfl)
  · refine pushed_same u l (·.get16 r) (fun _ _ _ _ => by cases r <;> rfl) (fun _ _ => ?_)
    cases r with
    | sp => exact absurd rfl hr
    | _ => rfl

/-- Where SR does not cut the step, the operation pushes the bytes of the registers. -/
def Stores (is : List Item) (f : State → Result State) : Prop :=
  ∀ s : State, s.uncut → f s = .ok (pushed (itemsBytes s is) s)

/-- The registers of one push, then those of another. -/
theorem Stores.append {is js : List Item} {f g : State → Result State} (h : Stores is f) (k : Stores js g)
    (n : ApartSp js := by decide) : Stores (is ++ js) fun s => f s >>= g := by
  intro s u
  have w := k _ (pushed_uncut u (itemsBytes s is))
  rw [itemsBytes_pushed u _ n] at w
  rw [itemsBytes_append, pushed_append]
  exact bind_ok.2 ⟨_, h s u, w⟩

theorem pushReg8_stores (r : Reg8) : Stores [.byte r] (pushReg8 r) := fun _ u => push8_uncut u _

theorem pushReg16_stores (r : Reg16) : Stores [.word r] (pushReg16 r) := fun s u =>
  push16_ok.2 ⟨_, push8_uncut u _, push8_uncut (pushed_uncut u [hiByte (s.get16 r)]) _⟩

theorem pushIp_stores : Stores [.byte .xp, .byte .yp] pushIp := (pushReg8_stores .xp).append (pushReg8_stores .yp)

theorem pushAll_stores : Stores [.word .ba, .word .hl, .word .ix, .word .iy, .byte .br] pushAll :=
  (pushReg16_stores .ba).append <| (pushReg16_stores .hl).append <| (pushReg16_stores .ix).append <|
    (pushReg16_stores .iy).append (pushReg8_stores .br)

theorem pushAle_stores :
    Stores [.word .ba, .word .hl, .word .ix, .word .iy, .byte .br, .byte .ep, .byte .xp, .byte .yp] pushAle :=
  pushAll_stores.append ((pushReg8_stores .ep).append pushIp_stores)

/-- The form of each PUSH stores the registers of its row. -/
theorem pushRows_store : ∀ row ∈ pushRows, Stores row.items fun s => (formOf row.instr).run s := by
  simp only [pushRows, List.forall_mem_cons, List.not_mem_nil, false_implies, implies_true, and_true]
  exact ⟨pushReg16_stores .ba, pushReg16_stores .hl, pushReg16_stores .ix, pushReg16_stores .iy, pushReg8_stores .br,
    pushReg8_stores .ep, pushReg8_stores .sc, pushReg8_stores .a, pushReg8_stores .b, pushReg8_stores .l,
    pushReg8_stores .h, pushIp_stores, pushAll_stores, pushAle_stores⟩

/-- An instruction that the model has answers where its form does. -/
theorem exec_of_run {i : Instr} {s t : State} (w : WellFormed s.cfg.model i) (h : (formOf i).run s = .ok t) :
    exec i s = .next t :=
  exec_next.2 ⟨w, .inl h⟩

/-- Settles O21: each row's registers are pushed one after the other (`Stores.append`). -/
theorem pushStoresRegisters : Obligations.PushStoresRegisters := fun row m s w u =>
  exec_of_run w (pushRows_store row m s u)

/-! POP. -/

/-- A change of other registers than SP: nothing that a bus cycle or a pop reads or writes, so that it may as well come behind them. -/
structure OffStack (g : State → State) : Prop where
  cfg : ∀ s, (g s).cfg = s.cfg
  mem : ∀ s, (g s).mem = s.mem
  bus : ∀ s, (g s).bus = s.bus
  trace : ∀ s, (g s).trace = s.trace
  sp : ∀ s, (g s).sp = s.sp
  setMem : ∀ s m, (g s).setMem m = g (s.setMem m)
  setBus : ∀ s b, (g s).setBus b = g (s.setBus b)
  setTrace : ∀ s e, (g s).setTrace e = g (s.setTrace e)
  setSp : ∀ s v, (g s).setSp v = g (s.setSp v)

theorem OffStack.refl : OffStack id := by constructor <;> intros <;> rfl

theorem OffStack.comp {f g : State → State} (h : OffStack f) (k : OffStack g) : OffStack (f ∘ g) := by
  constructor <;> intros <;>
    simp only [Function.comp, h.cfg, k.cfg, h.mem, k.mem, h.bus, k.bus, h.trace, k.trace, h.sp, k.sp, h.setMem,
      k.setMem, h.setBus, k.setBus, h.setTrace, k.setTrace, h.setSp, k.setSp]

theorem set8_offStack (r : Reg8) (v : Byte) : OffStack (·.set8 r v) := by
  cases r <;> constructor <;> intros <;> rfl

theorem set16_offStack {r : Reg16} (h : r ≠ .sp) (v : Word) : OffStack (·.set16 r v) := by
  cases r with
  | sp => exact absurd rfl h
  | _ => constructor <;> intros <;> rfl

section
variable {g : State → State} (o : OffStack g)
include o

theorem OffStack.kindAt (s : State) (a : Addr) : (g s).kindAt a = s.kindAt a := by
  simp only [State.kindAt, o.cfg]

theorem OffStack.record (s : State) (e : BusEvent) : (g s).record e = g (s.record e) := by
  simp only [State.record, o.trace, o.setTrace]

theorem OffStack.hold (s : State) (a : Addr) (v : Byte) : (g s).hold a v = g (s.hold a v) := by
  unfold State.hold
  rw [o.kindAt]
  cases s.kindAt a <;> simp only [o.mem, o.setMem]

theorem OffStack.found (s : State) (d : Option Byte) (a : Addr) : (g s).found d a = s.found d a := by
  simp only [State.found, deviceByte, o.kindAt, o.mem, o.trace]

theorem OffStack.masterAccess (s : State) (x : MasterAccess) :
    Machine.masterAccess (g s) x = g (Machine.masterAccess s x) := by
  cases x with
  | read a => simp only [Machine.masterAccess, o.found, o.record]
  | write a v => simp only [Machine.masterAccess, o.hold, o.record]

theorem OffStack.masterAccesses (l : List MasterAccess) (s : State) :
    l.foldl Machine.masterAccess (g s) = g (l.foldl Machine.masterAccess s) := by
  induction l generalizing s with
  | nil => rfl
  | cons x l ih => rw [List.foldl_cons, o.masterAccess, ih, List.foldl_cons]

theorem OffStack.busCycle {s t : State} {d : Option Byte} (h : Machine.busCycle s = .ok (t, d)) :
    Machine.busCycle (g s) = .ok (g t, d) := by
  rcases busCycle_ok.1 h with ⟨hb, rfl, hd⟩ | ⟨c, rest, hb, hc, rfl, hd⟩
  · exact busCycle_ok.2 (.inl ⟨(o.bus t).trans hb, rfl, hd⟩)
  · refine busCycle_ok.2 (.inr ⟨c, rest, (o.bus s).trans hb, hc, ?_, hd⟩)
    rw [o.setBus, o.masterAccesses]

theorem OffStack.readByte {s t : State} {a : Addr} {v : Byte} (h : Machine.readByte s a = .ok (v, t)) :
    Machine.readByte (g s) a = .ok (v, g t) := by
  obtain ⟨u, d, hb, hf, rfl⟩ := readByte_ok.1 h
  exact readByte_ok.2 ⟨g u, d, o.busCycle hb, (o.found u d a).trans hf, (o.record u _).symm⟩

theorem OffStack.stackAddr (s : State) (a : Word) : Machine.stackAddr (g s) a = Machine.stackAddr s a := by
  rw [Machine.stackAddr, o.cfg, dataAddr_cfg (o.cfg s), Machine.stackAddr]

/-- Registers loaded before a pop or behind it. -/
theorem OffStack.stackHolds {l : List Byte} {s t : State} (h : Machine.stackHolds s l t) :
    Machine.stackHolds (g s) l (g t) := by
  induction l generalizing s with
  | nil => exact congrArg g h
  | cons v l ih =>
    obtain ⟨u, hu, ht⟩ := h
    refine ⟨g u, ?_, ?_⟩
    · rw [o.sp, o.stackAddr]
      exact o.readByte hu
    · rw [o.sp, o.setSp]
      exact ih ht

end

theorem itemsLoaded_offStack {is : List Item} (n : ApartSp is) (l : List Byte) : OffStack (itemsLoaded is l) := by
  induction is generalizing l with
  | nil => exact .refl
  | cons i is ih =>
    have rest := ih fun m => n (List.mem_cons_of_mem _ m)
    match i, l with
    | .byte r, v :: l => exact (rest l).comp (set8_offStack r v)
    | .word r, lo :: hi :: l =>
      exact (rest l).comp (set16_offStack (by rintro rfl; exact n List.mem_cons_self) (pair hi lo))
    | .byte _, [] | .word _, [] | .word _, [_] => exact .refl

/-- The bytes of a stack, a part and the rest. -/
theorem stackHolds_append {x y : List Byte} {s t : State} :
    stackHolds s (x ++ y) t ↔ ∃ u, stackHolds s x u ∧ stackHolds u y t := by
  induction x generalizing s with
  | nil => simp [stackHolds]
  | cons v x ih =>
    simp only [List.cons_append, stackHolds, ih]
    constructor
    · rintro ⟨w, hw, u, hx, hy⟩; exact ⟨u, ⟨w, hw, hx⟩, hy⟩
    · rintro ⟨u, ⟨w, hw, hx⟩, hy⟩; exact ⟨w, hw, u, hx, hy⟩

/-- Bytes read from the stack raise SP by their number (D28). -/
theorem stackHolds_sp {l : List Byte} {s t : State} (h : stackHolds s l t) : t.sp = s.sp + BitVec.ofNat 16 l.length := by
  induction l generalizing s with
  | nil => cases h; simp
  | cons v l ih =>
    obtain ⟨u, hu, ht⟩ := h
    have e : u.sp = s.sp := (readByte_access hu).same State.sp fun _ _ _ _ => rfl
    rw [ih ht, State.setSp_sp, e, List.length_cons]
    bv_omega

theorem itemsSize_append (is js : List Item) : itemsSize (is ++ js) = itemsSize is + itemsSize js := by
  induction is with
  | nil => simp [itemsSize]
  | cons i is ih => cases i <;> simp only [List.cons_append, itemsSize, ih, Nat.add_assoc]

/-- Loading registers from their bytes, then others from the rest. -/
theorem itemsLoaded_append (is js : List Item) (x y : List Byte) (s : State) (h : x.length = itemsSize is) :
    itemsLoaded (is ++ js) (x ++ y) s = itemsLoaded js y (itemsLoaded is x s) := by
  induction is generalizing x s with
  | nil =>
    obtain rfl := List.eq_nil_of_length_eq_zero h
    simp [itemsLoaded]
  | cons i is ih =>
    match i, x with
    | .byte r, v :: x => exact ih x _ (by simpa [itemsSize, Nat.add_comm 1] using h)
    | .word r, lo :: hi :: x => exact ih x _ (by simpa [itemsSize, Nat.add_comm 2] using h)
    | .byte _, [] | .word _, [] | .word _, [_] =>
      simp only [itemsSize, List.length_nil, List.length_cons] at h
      omega

/-- Where the bytes at SP can be read, the operation loads the registers from them. -/
def Loads (is : List Item) (f : State → Result State) : Prop :=
  ∀ (s t : State) (l : List Byte), l.length = itemsSize is → stackHolds s l t → f s = .ok (itemsLoaded is l t)

/-- The registers of one pop, then those of another. -/
theorem Loads.append {is js : List Item} {f g : State → Result State} (h : Loads is f) (k : Loads js g)
    (n : ApartSp is := by decide) : Loads (is ++ js) fun s => f s >>= g := by
  intro s t l hl ht
  rw [itemsSize_append] at hl
  obtain ⟨x, y, rfl, hx⟩ : ∃ x y, l = x ++ y ∧ x.length = itemsSize is :=
    ⟨_, _, (List.take_append_drop (itemsSize is) l).symm, by simp [hl]⟩
  have hy : y.length = itemsSize js := by simpa [hx] using hl
  obtain ⟨u, hu, hut⟩ := stackHolds_append.1 ht
  rw [itemsLoaded_append _ _ _ _ _ hx]
  exact bind_ok.2 ⟨_, h s u x hx hu, k _ _ y hy ((itemsLoaded_offStack n x).stackHolds hut)⟩

theorem popReg8_loads (r : Reg8) : Loads [.byte r] (popReg8 r)
  | _, t, [v], _, ⟨u, hu, ht⟩ => popReg8_ok.2 ⟨v, t, pop8_ok.2 ⟨u, hu, ht⟩, rfl⟩

theorem popReg16_loads (r : Reg16) : Loads [.word r] (popReg16 r)
  | _, t, [lo, hi], _, ⟨u, hu, w, hw, ht⟩ =>
    popReg16_ok.2 ⟨pair hi lo, t, pop16_ok.2 ⟨lo, _, hi, pop8_ok.2 ⟨u, hu, rfl⟩, pop8_ok.2 ⟨w, hw, ht⟩, rfl⟩, rfl⟩

theorem popIp_loads : Loads [.byte .yp, .byte .xp] popIp := (popReg8_loads .yp).append (popReg8_loads .xp)

theorem popAll_loads : Loads [.byte .br, .word .iy, .word .ix, .word .hl, .word .ba] popAll :=
  (popReg8_loads .br).append <| (popReg16_loads .iy).append <| (popReg16_loads .ix).append <|
    (popReg16_loads .hl).append (popReg16_loads .ba)

theorem popAle_loads :
    Loads [.byte .yp, .byte .xp, .byte .ep, .byte .br, .word .iy, .word .ix, .word .hl, .word .ba] popAle :=
  popIp_loads.append ((popReg8_loads .ep).append popAll_loads)

/-- The form of each POP loads the registers of its row. -/
theorem popRows_load : ∀ row ∈ popRows, Loads row.items fun s => (formOf row.instr).run s := by
  simp only [popRows, List.forall_mem_cons, List.not_mem_nil, false_implies, implies_true, and_true]
  exact ⟨popReg16_loads .ba, popReg16_loads .hl, popReg16_loads .ix, popReg16_loads .iy, popReg8_loads .br,
    popReg8_loads .ep, popReg8_loads .sc, popReg8_loads .a, popReg8_loads .b, popReg8_loads .l,
    popReg8_loads .h, popIp_loads, popAll_loads, popAle_loads⟩

/-- Settles O22: each row's registers are popped one after the other (`Loads.append`), and loading one leaves what the next pop reads (`OffStack`). -/
theorem popLoadsRegisters : Obligations.PopLoadsRegisters := fun row m s t l w hl ht =>
  ⟨exec_of_run w (popRows_load row m s t l hl ht), stackHolds_sp ht⟩

end Sys2Proof.Machine
end

section
/-! Decoder and encoder (R100 to R106, R120 to R123). Both follow the op-code maps: bytes that are not too few begin with an op-code of a map, and its cell holds the instruction that op-code and operand bytes encode, or none. -/

namespace Sys2Proof.Machine

open Rules

/-! The bytes behind an op-code. -/

/-- The op-codes that have a cell: CEH and CFH are no first op-codes but lead to the other two maps (R101). -/
def HasCell : OpCode → Prop
  | .one b => b ≠ 0xCE#8 ∧ b ≠ 0xCF#8
  | .ce _ => True
  | .cf _ => True

/-- The refusal of an op-code that its map does not assign. -/
def refusalOf : OpCode → DecodeError
  | .one b => .undefinedFirst b
  | .ce b => .undefinedAfterCE b
  | .cf b => .undefinedAfterCF b

theorem refusalOf_ne_truncated (op : OpCode) : refusalOf op ≠ .truncated := by
  cases op <;> exact nofun

/-- A refusal names its op-code. -/
theorem refusalOf_injective {op op' : OpCode} (h : refusalOf op = refusalOf op') : op = op' := by
  cases op <;> cases op' <;> cases h <;> rfl

/-- Behind an op-code the decoder reads the operands of its cell. -/
theorem decode_of_hasCell {op : OpCode} (h : HasCell op) (p : List Byte) :
    decode (opBytes op ++ p) = (cellOf op).operands (refusalOf op) p := by
  cases op with
  | one b =>
    obtain ⟨hce, hcf⟩ := h
    simp only [opBytes, List.singleton_append, decode, hce, hcf, if_false]
    rfl
  | ce b => rfl
  | cf b => rfl

/-- Bytes are too few to hold an op-code, or begin with one. -/
theorem decode_cases (bytes : List Byte) :
    decode bytes = .error .truncated ∨ ∃ op p, HasCell op ∧ bytes = opBytes op ++ p := by
  cases bytes with
  | nil => exact .inl rfl
  | cons b rest =>
    by_cases hce : b = 0xCE#8
    · subst hce
      cases rest with
      | nil => exact .inl rfl
      | cons c rest => exact .inr ⟨.ce c, rest, trivial, rfl⟩
    by_cases hcf : b = 0xCF#8
    · subst hcf
      cases rest with
      | nil => exact .inl rfl
      | cons c rest => exact .inr ⟨.cf c, rest, trivial, rfl⟩
    exact .inr ⟨.one b, rest, ⟨hce, hcf⟩, rfl⟩

/-! The operand bytes. -/

/-- A cell takes its operand bytes and leaves what follows them. -/
theorem Spells.operands_append {i : Instr} {c : Cell} {l : List Byte} (h : Spells i c l) (e : DecodeError)
    (rest : List Byte) : c.operands e (l ++ rest) = .ok (i, rest) := by
  cases h with
  | word f w => simp [Cell.operands]
  | _ => rfl

/-- Where a cell takes operand bytes, they make the instruction it answers. -/
theorem Spells.of_operands {i : Instr} {c : Cell} {e : DecodeError} {p rest : List Byte}
    (h : c.operands e p = .ok (i, rest)) : ∃ l, Spells i c l ∧ p = l ++ rest := by
  match c, p, h with
  | .plain i, _, rfl => exact ⟨_, .plain i, rfl⟩
  | .byte f, n :: _, rfl => exact ⟨_, .byte f n, rfl⟩
  | .word f, lo :: hi :: _, rfl => exact ⟨_, .word f (pair hi lo), by simp⟩
  | .bytes f, n :: m :: _, rfl => exact ⟨_, .bytes f n m, rfl⟩

/-- A cell refuses for want of operand bytes, or because it holds no instruction. -/
theorem operands_error {c : Cell} {e x : DecodeError} {p : List Byte} (h : c.operands e p = .error x) :
    x = .truncated ∨ x = e ∧ c = .undefined := by
  match c, p, h with
  | .undefined, _, rfl => exact .inr ⟨rfl, rfl⟩
  | .byte _, [], rfl | .word _, [], rfl | .word _, [_], rfl | .bytes _, [], rfl | .bytes _, [_], rfl =>
    exact .inl rfl

/-! The cells of the maps. -/

/-- Whatever operand bytes make an instruction of the cell, op-code and operand bytes are its encoding. -/
def EncodedAt (op : OpCode) (c : Cell) : Prop := ∀ i l, Spells i c l → encode i = opBytes op ++ l

/-- `P` holds of every number below the bound, counted one by one. -/
inductive AllBelow (P : Nat → Prop) : Nat → Prop
  | zero : AllBelow P 0
  | succ {n : Nat} (h : AllBelow P n) (hn : P n) : AllBelow P (n + 1)

theorem AllBelow.of_lt {P : Nat → Prop} {n k : Nat} (h : AllBelow P n) (hk : k < n) : P k := by
  induction h with
  | zero => exact absurd hk (Nat.not_lt_zero k)
  | succ _ hn ih =>
    rcases Nat.lt_succ_iff_lt_or_eq.1 hk with hk | rfl
    · exact ih hk
    · exact hn

/-- What holds of the 256 bytes one by one holds of every byte. -/
theorem forall_byte {P : Byte → Prop} (h : AllBelow (fun n => P (BitVec.ofNat 8 n)) 256) (b : Byte) : P b := by
  have hb : P (BitVec.ofNat 8 b.toNat) := h.of_lt b.isLt
  rwa [BitVec.ofNat_toNat, BitVec.setWidth_eq] at hb

/-- The maps and the encoder agree on every cell: in each, the encoder computes to the op-code and the operand bytes. -/
theorem cellOf_encodedAt (op : OpCode) : EncodedAt op (cellOf op) := by
  cases op with
  | one b | ce b | cf b =>
    revert b
    refine forall_byte ?_
    repeat' refine .succ ?_ fun _ _ h => by cases h <;> rfl
    exact .zero

/-- Is the cell without an instruction? -/
def isUndefined : Cell → Bool
  | .undefined => true
  | _ => false

theorem eq_undefined_iff (c : Cell) : c = .undefined ↔ isUndefined c = true := by
  cases c <;> simp [isUndefined]

/-- The op-codes that have a cell, but no instruction in it (R123). -/
def Unassigned (op : OpCode) : Prop := HasCell op ∧ cellOf op = .undefined

theorem unassigned_one (b : Byte) : Unassigned (.one b) ↔ b.toNat = 0x7C ∨ b.toNat = 0xFE := by
  simp only [Unassigned, HasCell, cellOf, eq_undefined_iff]
  revert b
  decide

theorem unassigned_ce (b : Byte) : Unassigned (.ce b) ↔ b.toNat ∈ unassignedCE := by
  simp only [Unassigned, HasCell, cellOf, eq_undefined_iff]
  revert b
  decide

theorem unassigned_cf (b : Byte) :
    Unassigned (.cf b) ↔ ¬∃ r ∈ assignedCF, r.1 ≤ b.toNat ∧ b.toNat ≤ r.2 := by
  simp only [Unassigned, HasCell, cellOf, eq_undefined_iff]
  revert b
  decide

/-! Instructions. -/

/-- Settles O40: an instruction is spelled by its cell (`encode_spells`), which takes those operand bytes and no more. -/
theorem decodeEncode : Obligations.DecodeEncode := by
  intro i rest
  obtain ⟨l, hl, h⟩ := encode_spells i
  obtain ⟨e, he⟩ := decode_opBytes h (l ++ rest)
  rw [hl, List.append_assoc, he, h.operands_append]

/-- Settles O41: the bytes begin with an op-code (`decode_cases`), and its cell holds the instruction that op-code and operand bytes encode (`cellOf_encodedAt`). -/
theorem encodeDecode : Obligations.EncodeDecode := by
  intro bytes i rest h
  refine ⟨?_, List.length_pos_iff.2 (encode_ne_nil i), encode_length_le i⟩
  rcases decode_cases bytes with ht | ⟨op, p, hop, rfl⟩
  · exact nomatch ht.symm.trans h
  · rw [decode_of_hasCell hop] at h
    obtain ⟨l, hs, rfl⟩ := Spells.of_operands h
    rw [cellOf_encodedAt op i l hs, List.append_assoc]

/-- Settles O43: each list of bytes is the encoding of its instruction (`decodeEncode`). -/
theorem decodesWords : Obligations.DecodesWords :=
  ⟨decodeEncode (.addAImm 0x12#8) [], decodeEncode (.orMBrImm 0x10#8 0x0F#8) [], decodeEncode (.ldAMIxDd 0xFE#8) [],
    decodeEncode (.ldSpImm 0xF800#16) [], decodeEncode (.rrcMBr 0x05#8) [], decodeEncode .popAle [],
    decodeEncode (.jrsNz 0xFA#8) [], decodeEncode (.callMAbs 0x1234#16) [], decodeEncode .halt [],
    decodeEncode .div [], rfl⟩

/-! Undefined op-codes. -/

/-- The decoder refuses by name exactly the unassigned op-codes. -/
theorem decode_eq_refusal (op : OpCode) (p : List Byte) :
    decode (opBytes op ++ p) = .error (refusalOf op) ↔ Unassigned op := by
  constructor
  · intro h
    rcases decode_cases (opBytes op ++ p) with ht | ⟨op', p', hop, hp⟩
    · exact absurd (Except.error.inj (h.symm.trans ht)) (refusalOf_ne_truncated op)
    · rw [hp, decode_of_hasCell hop] at h
      rcases operands_error h with ht | ⟨hr, hu⟩
      · exact absurd ht (refusalOf_ne_truncated op)
      · cases refusalOf_injective hr
        exact ⟨hop, hu⟩
  · rintro ⟨hop, hu⟩
    rw [decode_of_hasCell hop, hu]
    rfl

/-- Where the bytes of an unassigned op-code that are still to be read stand from `a` on, the fetch reads them and stops. -/
theorem fetchFrom_unassigned {op : OpCode} {t : State} (hop : Unassigned op) (rest : List Byte) {n : Nat}
    {got : List Byte} {a : Word} {s : State} (he : opBytes op = got ++ rest) (hr : rest ≠ [])
    (hn : rest.length ≤ n) (h : bytesAt rest a s t) :
    fetchFrom n got a s = .error (.fault (.undefinedOpcode t)) := by
  induction rest generalizing n got a s with
  | nil => exact absurd rfl hr
  | cons b rest ih =>
    obtain ⟨u, hb, ht⟩ := h
    rw [List.append_cons] at he
    match n, hn with
    | n + 1, hn =>
      refine bind_error.2 (.inr ⟨(b, u), hb, ?_⟩)
      cases rest with
      | nil =>
        cases ht
        have hd := (decode_eq_refusal op []).2 hop
        rw [List.append_nil, he, List.append_nil] at hd
        simp only [hd]
        cases op <;> rfl
      | cons c rest =>
        simp only [decode_opPart he (List.cons_ne_nil c rest)]
        exact ih he (List.cons_ne_nil c rest) (Nat.le_of_succ_le_succ hn) ht

/-- Where an unassigned op-code stands at PC, the step is the fault of U1. -/
theorem step_unassigned {op : OpCode} {s t : State} (hop : Unassigned op) (h : runs (latchInputs s))
    (f : bytesAt (opBytes op) (latchInputs s).pc (latchInputs s) t) :
    step s = .fault (.undefinedOpcode (passed t)) := by
  have hn : opBytes op ≠ [] := by cases op <;> exact List.cons_ne_nil _ _
  have hl : (opBytes op).length ≤ 4 := by cases op <;> simp [opBytes]
  have hf : fetchInstr (idlePoint (latchInputs s)) = .error (.fault (.undefinedOpcode (idlePoint t))) :=
    fetchFrom_unassigned hop (opBytes op) rfl hn hl (bytesAt_idlePoint f)
  rw [step_runs h, runInstruction, hf]
  rfl

/-- Settles O42: the decoder refuses exactly the unassigned op-codes (`decode_eq_refusal`), and the fetch reads no further than the op-code (`step_unassigned`). -/
theorem undefinedEncodings : Obligations.UndefinedEncodings :=
  ⟨fun b rest => (decode_eq_refusal (.one b) rest).trans (unassigned_one b),
    fun b rest => (decode_eq_refusal (.ce b) rest).trans (unassigned_ce b),
    fun b rest => (decode_eq_refusal (.cf b) rest).trans (unassigned_cf b),
    fun _ _ b h f hb => step_unassigned ((unassigned_one b).2 hb) h f,
    fun _ _ b h =>
      ⟨fun f hb => step_unassigned ((unassigned_ce b).2 hb) h f,
        fun f hb => step_unassigned ((unassigned_cf b).2 hb) h f⟩⟩

end Sys2Proof.Machine
end

section
/-! Results of the ALU as numbers (R32, R141 to R145, R440): the model's formulas on bit vectors are those of the rules. -/

namespace Sys2Proof.Machine

open Rules

/-! Binary operations, for every width. -/

theorem beq_zero_eq_decide {w : Nat} (x : BitVec w) : (x == 0#w) = decide (x.toNat = 0) := by
  rw [Bool.eq_iff_iff, beq_iff_eq, decide_eq_true_iff, ← BitVec.toNat_inj, BitVec.toNat_ofNat, Nat.zero_mod]

theorem ofNat_mod_two_pow (w n : Nat) : BitVec.ofNat w (n % 2 ^ w) = BitVec.ofNat w n :=
  BitVec.eq_of_toNat_eq (by rw [BitVec.toNat_ofNat, BitVec.toNat_ofNat, Nat.mod_mod])

/-- Both bounds as the rules write them, the largest and the smallest value of `w` bits (R32). -/
theorem outOfRange_eq (w : Nat) (t : Int) :
    outOfRange w t = (decide (t < -2 ^ (w - 1)) || decide (2 ^ (w - 1) - 1 < t)) := by
  simp only [outOfRange, Int.sub_one_lt_iff]

/-- A binary sum and its flags (R141, R440). -/
theorem addBits_eq {w : Nat} (a b : BitVec w) (cin : Bool) :
    addBits a b cin =
      let sum := a.toNat + b.toNat + cin.toNat
      let exact : Int := a.toInt + b.toInt + cin.toNat
      { value := BitVec.ofNat w (sum % 2 ^ w)
        n := decide (2 ^ (w - 1) ≤ sum % 2 ^ w)
        v := decide (exact < -2 ^ (w - 1)) || decide (2 ^ (w - 1) - 1 < exact)
        c := decide (2 ^ w ≤ sum)
        z := decide (sum % 2 ^ w = 0) } := by
  simp only [addBits, outOfRange_eq, BitVec.msb_eq_decide, beq_zero_eq_decide, BitVec.toNat_ofNat,
    ofNat_mod_two_pow]

/-- A binary difference and its flags (R144, R440). -/
theorem subBits_eq {w : Nat} (a b : BitVec w) (bin : Bool) :
    subBits a b bin =
      let diff : Int := (a.toNat : Int) - b.toNat - bin.toNat
      let exact : Int := a.toInt - b.toInt - bin.toNat
      { value := BitVec.ofNat w (diff % 2 ^ w).toNat
        n := decide (2 ^ (w - 1) ≤ diff % 2 ^ w)
        v := decide (exact < -2 ^ (w - 1)) || decide (2 ^ (w - 1) - 1 < exact)
        c := decide (diff < 0)
        z := decide (diff % 2 ^ w = 0) } := by
  generalize hd : (a.toNat : Int) - b.toNat - bin.toNat = diff
  have pos : (0 : Int) < 2 ^ w := Int.pow_pos (by decide)
  obtain ⟨r, hr⟩ : ∃ r : Nat, diff % 2 ^ w = r := Int.eq_ofNat_of_zero_le (Int.emod_nonneg _ (Int.ne_of_gt pos))
  have hn : (BitVec.ofNat w r).toNat = r :=
    Nat.mod_eq_of_lt (by exact_mod_cast hr ▸ Int.emod_lt_of_pos diff pos)
  have hv : BitVec.ofInt w diff = BitVec.ofNat w r :=
    BitVec.eq_of_toNat_eq (by rw [hn, BitVec.toNat_ofInt, Int.natCast_pow, Int.cast_ofNat_Int, hr, Int.toNat_natCast])
  have hs : (2 ^ (w - 1) ≤ r) = ((2 ^ (w - 1) : Int) ≤ r) := by norm_cast
  simp only [subBits, hd, outOfRange_eq, BitVec.msb_eq_decide, beq_zero_eq_decide, hv, hn, hr, hs, Int.toNat_natCast,
    Int.natCast_eq_zero]

theorem addBits_eq_add8 (a b : Byte) (cin : Bool) : addBits a b cin = add8 a b cin.toNat := addBits_eq a b cin

theorem subBits_eq_sub8 (a b : Byte) (bin : Bool) : subBits a b bin = sub8 a b bin.toNat := subBits_eq a b bin

/-! Digits of a byte. -/

theorem loNibble_toNat (x : Byte) : (loNibble x).toNat = x.toNat % 16 := by
  rw [loNibble, BitVec.extractLsb'_toNat, Nat.shiftRight_zero]

theorem hiNibble_toNat (x : Byte) : (hiNibble x).toNat = x.toNat / 16 := by
  have := x.isLt
  simp only [hiNibble, BitVec.extractLsb'_toNat, Nat.shiftRight_eq_div_pow]
  omega

theorem loNibble_toInt (x : Byte) : (loNibble x).toInt = signed4 x := by
  simp only [BitVec.toInt_eq_toNat_cond, loNibble_toNat, signed4]
  split <;> split <;> omega

/-! Unpack operations. -/

/-- The digit in a byte. -/
theorem unpacked_value (r : Alu 4) : (unpacked r).value.toNat = r.value.toNat :=
  (append_toNat 0#4 r.value).trans (Nat.zero_add _)

theorem unpacked_ofNat {d : Nat} (h : d < 16) (n v c z : Bool) :
    unpacked { value := BitVec.ofNat 4 d, n := n, v := v, c := c, z := z } =
      { value := BitVec.ofNat 8 d, n := n, v := v, c := c, z := z } := by
  have e : 0#4 ++ BitVec.ofNat 4 d = BitVec.ofNat 8 d := by
    refine BitVec.eq_of_toNat_eq ?_
    simp only [append_toNat, BitVec.toNat_ofNat]
    omega
  rw [unpacked, e]

theorem unpacked_addBits (a b : Byte) (cin : Bool) :
    unpacked (addBits (loNibble a) (loNibble b) cin) = unpackAdd a b cin.toNat := by
  rw [addBits_eq, loNibble_toNat, loNibble_toNat, loNibble_toInt, loNibble_toInt]
  exact unpacked_ofNat (Nat.mod_lt _ (by decide)) _ _ _ _

theorem unpacked_subBits (a b : Byte) (bin : Bool) :
    unpacked (subBits (loNibble a) (loNibble b) bin) = unpackSub a b bin.toNat := by
  rw [subBits_eq, loNibble_toNat, loNibble_toNat, loNibble_toInt, loNibble_toInt]
  exact unpacked_ofNat (by omega) _ _ _ _

/-! Decimal operations. -/

theorem isBcd_iff (x : Byte) : isBcd x = true ↔ decimalByte x := by
  simp only [isBcd, isDigit, decimalByte, loNibble_toNat, hiNibble_toNat, Bool.and_eq_true, decide_eq_true_eq]

theorem bcdValue_eq (x : Byte) : bcdValue x = decimalValue x := by
  rw [bcdValue, decimalValue, hiNibble_toNat, loNibble_toNat]

theorem bcdByte_eq (v : Nat) : bcdByte v = BitVec.ofNat 8 (16 * (v / 10) + v % 10) := by
  refine BitVec.eq_of_toNat_eq ?_
  simp only [bcdByte, append_toNat, BitVec.toNat_ofNat]
  omega

theorem decimal_bcdByte {v : Nat} (h : v < 100) (c : Bool) : decimal (bcdByte v) c = decimal8 v c := by
  have z : (bcdByte v == 0#8) = decide (v = 0) := by
    rw [bcdByte_eq, beq_zero_eq_decide, BitVec.toNat_ofNat, decide_eq_decide]
    omega
  rw [decimal, decimal8, z, bcdByte_eq]

theorem decAdd_of_decimal {a b : Byte} (ha : decimalByte a) (hb : decimalByte b) (k : Nat) (cin : Bool) :
    decAdd k a b cin = decimalAdd a b cin.toNat := by
  simp only [decAdd, (isBcd_iff a).2 ha, (isBcd_iff b).2 hb, Bool.and_self, if_true, bcdValue_eq]
  exact decimal_bcdByte (Nat.mod_lt _ (by decide)) _

theorem decSub_of_decimal {a b : Byte} (ha : decimalByte a) (hb : decimalByte b) (k : Nat) (bin : Bool) :
    decSub k a b bin = decimalSub a b bin.toNat := by
  simp only [decSub, (isBcd_iff a).2 ha, (isBcd_iff b).2 hb, Bool.and_self, if_true, bcdValue_eq]
  exact decimal_bcdByte (by omega) _

/-! Decimal operations on one digit (D14, log 10). -/

theorem isDigit_loNibble (x : Byte) : isDigit (loNibble x) = true ↔ x.toNat % 16 ≤ 9 := by
  rw [isDigit, loNibble_toNat, decide_eq_true_iff]

/-- The digit `d` in a byte. -/
theorem unpacked_decimal {d : Nat} (h : d < 10) (c : Bool) :
    unpacked (decimal (BitVec.ofNat 4 d) c) =
      { value := BitVec.ofNat 8 d, n := false, v := false, c := c, z := decide (d = 0) } := by
  have e : (BitVec.ofNat 4 d).toNat = d := by rw [BitVec.toNat_ofNat]; omega
  rw [decimal, beq_zero_eq_decide, e, unpacked_ofNat (by omega)]

theorem unpDecAdd_of_digits {a b : Byte} (ha : a.toNat % 16 ≤ 9) (hb : b.toNat % 16 ≤ 9) (k : Nat) (cin : Bool) :
    unpacked (unpDecAdd k (loNibble a) (loNibble b) cin) = unpackDecimalAdd a b cin.toNat := by
  simp only [unpDecAdd, (isDigit_loNibble a).2 ha, (isDigit_loNibble b).2 hb, Bool.and_self, if_true, loNibble_toNat]
  exact unpacked_decimal (Nat.mod_lt _ (by decide)) _

theorem unpDecSub_of_digits {a b : Byte} (ha : a.toNat % 16 ≤ 9) (hb : b.toNat % 16 ≤ 9) (k : Nat) (bin : Bool) :
    unpacked (unpDecSub k (loNibble a) (loNibble b) bin) = unpackDecimalSub a b bin.toNat := by
  simp only [unpDecSub, (isDigit_loNibble a).2 ha, (isDigit_loNibble b).2 hb, Bool.and_self, if_true, loNibble_toNat]
  rw [unpacked_decimal (by omega), unpackDecimalSub]
  congr 2
  simp only [eq_iff_iff]
  omega

/-! Operands that are not BCD (U5, log 9). -/

/-- The condition under which both decimal operations give the free values. -/
theorem not_bcd_iff (a b : Byte) : ¬(isBcd a && isBcd b) = true ↔ ¬(decimalByte a ∧ decimalByte b) := by
  rw [Bool.and_eq_true, isBcd_iff, isBcd_iff]

theorem decAdd_of_not_decimal {a b : Byte} (h : ¬(decimalByte a ∧ decimalByte b)) (k : Nat) (cin : Bool) :
    decAdd k a b cin = nonBcd k := if_neg ((not_bcd_iff a b).2 h)

theorem decSub_of_not_decimal {a b : Byte} (h : ¬(decimalByte a ∧ decimalByte b)) (k : Nat) (bin : Bool) :
    decSub k a b bin = nonBcd k := if_neg ((not_bcd_iff a b).2 h)

/-- The same for one digit. -/
theorem not_digits_iff (a b : Byte) :
    ¬(isDigit (loNibble a) && isDigit (loNibble b)) = true ↔ ¬(a.toNat % 16 ≤ 9 ∧ b.toNat % 16 ≤ 9) := by
  rw [Bool.and_eq_true, isDigit_loNibble, isDigit_loNibble]

theorem unpDecAdd_of_not_digits {a b : Byte} (h : ¬(a.toNat % 16 ≤ 9 ∧ b.toNat % 16 ≤ 9)) (k : Nat) (cin : Bool) :
    unpDecAdd k (loNibble a) (loNibble b) cin = nonBcdUnpacked k := if_neg ((not_digits_iff a b).2 h)

theorem unpDecSub_of_not_digits {a b : Byte} (h : ¬(a.toNat % 16 ≤ 9 ∧ b.toNat % 16 ≤ 9)) (k : Nat) (bin : Bool) :
    unpDecSub k (loNibble a) (loNibble b) bin = nonBcdUnpacked k := if_neg ((not_digits_iff a b).2 h)

/-- What is known of a result that the spec leaves open: N and V, and in the unpack operation (`u`) the upper digit (U14). -/
structure OpenResult (u : Bool) (r : Alu 8) : Prop where
  n : r.n = false
  v : r.v = false
  upper : u = true → r.value.toNat < 16

theorem nonBcd_open (k : Nat) : OpenResult false (nonBcd k) := ⟨rfl, rfl, nofun⟩

theorem nonBcdUnpacked_open (u : Bool) (k : Nat) : OpenResult u (unpacked (nonBcdUnpacked k)) := by
  refine ⟨rfl, rfl, fun _ => ?_⟩
  rw [unpacked_value]
  exact BitVec.isLt _

end Sys2Proof.Machine
end

section
/-! 8-bit arithmetic (R140 to R218): each table of instructions has one meaning on its operands, which for ADD, ADC, SUB, SBC and NEG is the operation that D and U choose. -/

namespace Sys2Proof.Machine

open Rules

/-! Tables of instructions. -/

/-- An instruction of a table that every CPU model has answers where the operation of its row does. -/
theorem table_next {ρ : Type} {rows : List ρ} {instr : ρ → Instr} {s : State} {F : ρ → Result State}
    (core : rows.map (fun r => (instr r).need) = rows.map fun _ => .core)
    (run : rows.map (fun r => (formOf (instr r)).run s) = rows.map F) {r : ρ} (m : r ∈ rows) {t : State}
    (h : F r = .ok t) : exec (instr r) s = .next t := by
  refine exec_of_run ?_ ((List.map_inj_left.1 run r m).trans h)
  rw [WellFormed, List.map_inj_left.1 core r m, Need.metBy]

/-- A source reads what the location it stands for reads. -/
theorem held_read (loc : Loc8) (s : State) : (held loc).read s = loc.read s := by cases loc <;> rfl

/-! ADD, ADC, SUB, SBC, NEG. -/

/-- `arith8` with a left operand of its own, which for NEG is 0 (R214). -/
def arith8From (left : Src8) (op : ArithOp) (dst : Loc8) (right : Src8) (s : State) : Result State := do
  let (b, s1) ← right.read s
  let (a, s2) ← left.read s1
  let r := op.on8 s2 a b
  let t ← dst.write r.value s2
  .ok (t.setNVCZ r)

theorem arith8From_ok {left right : Src8} {op : ArithOp} {dst : Loc8} {s s1 s2 t : State} {a b : Byte}
    (hr : right.read s = .ok (b, s1)) (hl : left.read s1 = .ok (a, s2))
    (hw : dst.write (op.on8 s2 a b).value s2 = .ok t) :
    arith8From left op dst right s = .ok (t.setNVCZ (op.on8 s2 a b)) :=
  bind_ok.2 ⟨_, hr, bind_ok.2 ⟨_, hl, bind_ok.2 ⟨_, hw, rfl⟩⟩⟩

theorem run_arith8Rows (n : Byte) (w : Word) (s : State) :
    (arith8Rows n w).map (fun r => (formOf r.instr).run s) =
      (arith8Rows n w).map fun r => arith8From r.left r.op r.dst r.right s := rfl

theorem core_arith8Rows (n : Byte) (w : Word) :
    (arith8Rows n w).map (fun r => r.instr.need) = (arith8Rows n w).map fun _ => .core := rfl

/-- The operation reads flags and the index of the free values, which no bus cycle changes. -/
theorem Access.on8 {s t : State} {x : List Addr} (h : Access s t x) (op : ArithOp) (a b : Byte) :
    op.on8 t a b = op.on8 s a b :=
  h.same (op.on8 · a b) fun _ _ _ _ => by cases op <;> rfl

/-- What the 68 forms do, whatever D and U are. -/
theorem exec_arith8Rows {n : Byte} {w : Word} {row : Arith8Row} (m : row ∈ arith8Rows n w) {s s1 s2 : State}
    {a b : Byte} (u : s.uncut) (hr : row.right.read s = .ok (b, s1)) (hl : row.left.read s1 = .ok (a, s2)) :
    exec row.instr s = .next (stored8 row.dst (row.op.on8 s a b) s2) := by
  have reads : Access s s2 [] := (source8_access hr).trans (source8_access hl)
  rw [← reads.on8]
  exact table_next (core_arith8Rows n w) (run_arith8Rows n w s) m
    (arith8From_ok hr hl (write8_uncut (reads.uncut u) _))

/-- The four operations are an addition and a subtraction, each with a carry that goes in or without. -/
theorem on8_induction {s : State} {a b : Byte} {P : Alu 8 → Prop} (add : ∀ c, P (arithAdd s a b c))
    (sub : ∀ c, P (arithSub s a b c)) (op : ArithOp) : P (op.on8 s a b) := by
  cases op with
  | add | adc => exact add _
  | sub | sbc => exact sub _

/-- What the 68 forms do where D and U choose the addition `A` and the subtraction `S` (R145). -/
theorem exec_arith8Rows_of {n : Byte} {w : Word} {row : Arith8Row} (m : row ∈ arith8Rows n w) {s s1 s2 : State}
    {a b : Byte} {A S : Nat → Alu 8} (hA : ∀ c, arithAdd s a b c = A c.toNat)
    (hS : ∀ c, arithSub s a b c = S c.toNat) (u : s.uncut) (hr : row.right.read s = .ok (b, s1))
    (hl : row.left.read s1 = .ok (a, s2)) :
    exec row.instr s =
      .next (stored8 row.dst (oneOf (A (carryIn s row.op)) (S (carryIn s row.op)) row.op) s2) := by
  have e : row.op.on8 s a b = oneOf (A (carryIn s row.op)) (S (carryIn s row.op)) row.op := by
    cases row.op with
    | add => exact hA false
    | adc => exact hA (s.flag .c)
    | sub => exact hS false
    | sbc => exact hS (s.flag .c)
  rw [exec_arith8Rows m u hr hl, e]

/-- On operands that are not BCD the four operations give the free values (U5). -/
theorem on8_open {s : State} {a b : Byte} (d : s.flag .d = true)
    (h : s.flag .u = false ∧ ¬(decimalByte a ∧ decimalByte b) ∨
      s.flag .u = true ∧ ¬(a.toNat % 16 ≤ 9 ∧ b.toNat % 16 ≤ 9)) (op : ArithOp) :
    OpenResult (s.flag .u) (op.on8 s a b) := by
  rcases h with ⟨u, h⟩ | ⟨u, h⟩ <;> rw [u]
  · refine on8_induction (fun c => ?_) (fun c => ?_) op
    · simpa only [arithAdd, d, u, decAdd_of_not_decimal h] using nonBcd_open s.freeCount
    · simpa only [arithSub, d, u, decSub_of_not_decimal h] using nonBcd_open s.freeCount
  · refine on8_induction (fun c => ?_) (fun c => ?_) op
    · simpa only [arithAdd, d, u, unpDecAdd_of_not_digits h] using nonBcdUnpacked_open true s.freeCount
    · simpa only [arithSub, d, u, unpDecSub_of_not_digits h] using nonBcdUnpacked_open true s.freeCount

/-! CP. -/

theorem run_compare8Rows (n m : Byte) (w : Word) (s : State) :
    (compare8Rows n m w).map (fun r => (formOf r.instr).run s) =
      (compare8Rows n m w).map fun r => compare8 r.dst r.src s := rfl

theorem core_compare8Rows (n m : Byte) (w : Word) :
    (compare8Rows n m w).map (fun r => r.instr.need) = (compare8Rows n m w).map fun _ => .core := rfl

/-! INC and DEC. -/

theorem run_inc8Rows (n : Byte) (s : State) :
    (inc8Rows n).map (fun r => (formOf r.instr).run s) = (inc8Rows n).map fun r => inc8 r.loc s := rfl

theorem run_dec8Rows (n : Byte) (s : State) :
    (dec8Rows n).map (fun r => (formOf r.instr).run s) = (dec8Rows n).map fun r => dec8 r.loc s := rfl

theorem core_inc8Rows (n : Byte) : (inc8Rows n).map (fun r => r.instr.need) = (inc8Rows n).map fun _ => .core := rfl

theorem core_dec8Rows (n : Byte) : (dec8Rows n).map (fun r => r.instr.need) = (dec8Rows n).map fun _ => .core := rfl

/-- INC where SR does not cut the step. -/
theorem inc8_uncut {loc : Loc8} {s s1 : State} {x : Byte} (u : s.uncut) (h : (held loc).read s = .ok (x, s1)) :
    inc8 loc s = .ok ((loc.put (BitVec.ofNat 8 ((x.toNat + 1) % 256)) s1).setFlag .z (decide (x.toNat = 255))) := by
  have value : x + 1#8 = BitVec.ofNat 8 ((x.toNat + 1) % 256) := by bv_omega
  have zero : (x + 1#8 == 0#8) = decide (x.toNat = 255) := by
    rw [beq_zero_eq_decide, decide_eq_decide]
    bv_omega
  rw [← value, ← zero]
  exact inc8_ok.2 ⟨x, s1, _, held_read loc s ▸ h, write8_uncut ((source8_access h).uncut u) _, rfl⟩

/-- DEC where SR does not cut the step. -/
theorem dec8_uncut {loc : Loc8} {s s1 : State} {x : Byte} (u : s.uncut) (h : (held loc).read s = .ok (x, s1)) :
    dec8 loc s = .ok ((loc.put (BitVec.ofNat 8 ((x.toNat + 255) % 256)) s1).setFlag .z (decide (x.toNat = 1))) := by
  have value : x - 1#8 = BitVec.ofNat 8 ((x.toNat + 255) % 256) := by bv_omega
  have zero : (x - 1#8 == 0#8) = decide (x.toNat = 1) := by
    rw [beq_zero_eq_decide, decide_eq_decide]
    bv_omega
  rw [← value, ← zero]
  exact dec8_ok.2 ⟨x, s1, _, held_read loc s ▸ h, write8_uncut ((source8_access h).uncut u) _, rfl⟩

/-! MLT and DIV. -/

/-- The models with multiplication and division (R3). -/
theorem wellFormed_mulDiv {m : CpuModel} (h : m = .model1 ∨ m = .model3) {i : Instr} (hi : i.need = .mulDiv) :
    WellFormed m i := by
  rcases h with rfl | rfl <;> rw [WellFormed, hi] <;> rfl

theorem product_toNat (l a : Byte) : (product l a).toNat = l.toNat * a.toNat := by
  have bound : l.toNat * a.toNat < 2 ^ 8 * 2 ^ 8 := Nat.mul_lt_mul'' l.isLt a.isLt
  exact Nat.mod_eq_of_lt bound

end Sys2Proof.Machine

namespace Sys2Proof.Laws

open Machine Rules

/-! The obligations, in this namespace because three of them have names of operations of the model. -/

/-- Settles O1: with D = U = 0 the operation is the binary one (`addBits_eq`, `subBits_eq`). -/
theorem binaryArith8 : Obligations.BinaryArith8 := fun _ _ _ m _ _ _ _ _ d u =>
  exec_arith8Rows_of m (fun _ => by simp only [arithAdd, d, u, addBits_eq_add8])
    fun _ => by simp only [arithSub, d, u, subBits_eq_sub8]

/-- Settles O2: two BCD digits of a byte are its decimal value (`bcdValue_eq`, `decimal_bcdByte`). -/
theorem decimalArith8 : Obligations.DecimalArith8 := fun _ _ _ m _ _ _ _ _ d u ha hb =>
  exec_arith8Rows_of m (fun _ => by simp only [arithAdd, d, u, decAdd_of_decimal ha hb])
    fun _ => by simp only [arithSub, d, u, decSub_of_decimal ha hb]

/-- Settles O3: the binary operation of four bits, its result put in a byte (`unpacked_ofNat`). -/
theorem unpackedArith8 : Obligations.UnpackedArith8 := fun _ _ _ m _ _ _ _ _ d u =>
  exec_arith8Rows_of m (fun _ => by simp only [arithAdd, d, u, unpacked_addBits])
    fun _ => by simp only [arithSub, d, u, unpacked_subBits]

/-- Settles O4: the decimal operation of one digit, its result put in a byte (`unpacked_decimal`). -/
theorem unpackedDecimalArith8 : Obligations.UnpackedDecimalArith8 := fun _ _ _ m _ _ _ _ _ d u ha hb =>
  exec_arith8Rows_of m (fun _ => by simp only [arithAdd, d, u, unpDecAdd_of_digits ha hb])
    fun _ => by simp only [arithSub, d, u, unpDecSub_of_digits ha hb]

/-- Settles O5: the free values stand for result, C and Z (`on8_open`). -/
theorem nonBcdArith8 : Obligations.NonBcdArith8 := by
  intro n w row m s s1 s2 a b d h u hr hl
  obtain ⟨hn, hv, upper⟩ := on8_open d h row.op
  refine ⟨(row.op.on8 s a b).value, (row.op.on8 s a b).c, (row.op.on8 s a b).z, upper, ?_⟩
  rw [exec_arith8Rows m u hr hl, stored8, hn, hv]

/-- Settles O6: `compare8` takes the binary difference, without a look at D and U. -/
theorem compare8 : Obligations.Compare8 := by
  intro n m w row h s s1 s2 a b hb ha
  rw [← show subBits a b false = sub8 a b 0 from subBits_eq_sub8 a b false]
  exact table_next (core_compare8Rows n m w) (run_compare8Rows n m w s) h
    (compare8_ok.2 ⟨b, s1, a, s2, hb, held_read row.dst s1 ▸ ha, rfl⟩)

/-- Settles O7: each form increments or decrements its operand (`inc8_uncut`, `dec8_uncut`). -/
theorem incDec8 : Obligations.IncDec8 :=
  ⟨fun n _ m s _ _ u h => table_next (core_inc8Rows n) (run_inc8Rows n s) m (inc8_uncut u h),
    fun n _ m s _ _ u h => table_next (core_dec8Rows n) (run_dec8Rows n s) m (dec8_uncut u h)⟩

/-- Settles O8: the product of two bytes is below 65536 (`product_toNat`). -/
theorem multiply : Obligations.Multiply := by
  refine ⟨rfl, rfl, fun s h => exec_of_run (wellFormed_mulDiv h rfl) (multiply_ok.2 ?_)⟩
  rw [BitVec.msb_eq_decide, beq_zero_eq_decide, product_toNat]
  rfl

/-- Settles O9: the cases of `divide_ok` for a divisor that is not 0; a quotient up to 255 is a byte. -/
theorem divide : Obligations.Divide := by
  intro s h ha
  have next {t : State} (run : Machine.divide s = .ok t) : exec .div s = .next t :=
    exec_of_run (wellFormed_mulDiv h rfl) run
  refine ⟨fun q => next (divide_ok.2 ?_), fun q => next (divide_ok.2 ?_)⟩
  · have byte : (BitVec.ofNat 8 (s.hl.toNat / s.a.toNat)).toNat = s.hl.toNat / s.a.toNat :=
      Nat.mod_eq_of_lt (Nat.lt_succ_of_le q)
    rw [if_neg ha, if_neg (Nat.not_lt.2 q), BitVec.msb_eq_decide, beq_zero_eq_decide, byte]
    rfl
  · rw [if_neg ha, if_pos q]
    rfl

end Sys2Proof.Laws
end

section
/-! 8-bit logic (R230 to R287): each table of instructions has one meaning on its operands, whose N and Z come from the byte it computes. -/

namespace Sys2Proof.Machine

open Rules

/-- N and Z of a result as numbers (R32). -/
theorem setNZ_eq_withNZ (s : State) (r : Byte) :
    s.setNZ r = s.withNZ (decide (128 ≤ r.toNat)) (decide (r.toNat = 0)) := by
  rw [State.setNZ, BitVec.msb_eq_decide, beq_zero_eq_decide]
  rfl

/-- A store of a result and its N and Z, as the model does it and as the rules say it. -/
theorem setNZ_put (dst : Loc8) (r : Byte) (s : State) : (dst.put r s).setNZ r = storedNZ dst r s :=
  setNZ_eq_withNZ _ r

/-! AND, OR, XOR. -/

theorem eval_eq_bitwise (op : LogicOp) (a b : Byte) : op.eval a b = bitwise a b op := by cases op <;> rfl

/-- The left operand of each form is what its destination holds. -/
theorem left_logic8Rows (n m : Byte) (w : Word) :
    (logic8Rows n m w).map (fun r => r.left) = (logic8Rows n m w).map fun r => held r.dst := rfl

theorem run_logic8Rows (n m : Byte) (w : Word) (s : State) :
    (logic8Rows n m w).map (fun r => (formOf r.instr).run s) =
      (logic8Rows n m w).map fun r => logic8 r.op r.dst r.right s := rfl

theorem core_logic8Rows (n m : Byte) (w : Word) :
    (logic8Rows n m w).map (fun r => r.instr.need) = (logic8Rows n m w).map fun _ => .core := rfl

/-- AND, OR, XOR where SR does not cut the step. -/
theorem logic8_uncut {op : LogicOp} {dst : Loc8} {src : Src8} {s s1 s2 : State} {a b : Byte} (u : s.uncut)
    (hb : src.read s = .ok (b, s1)) (ha : (held dst).read s1 = .ok (a, s2)) :
    logic8 op dst src s = .ok (storedNZ dst (bitwise a b op) s2) := by
  have reads : Access s s2 [] := (source8_access hb).trans (source8_access ha)
  rw [← eval_eq_bitwise, ← setNZ_put]
  exact logic8_ok.2 ⟨b, s1, a, s2, _, hb, held_read dst s1 ▸ ha, write8_uncut (reads.uncut u) _, rfl⟩

/-! BIT and CPL. -/

theorem run_bitTestRows (n m : Byte) (s : State) :
    (bitTestRows n m).map (fun r => (formOf r.instr).run s) =
      (bitTestRows n m).map fun r => bitTest r.dst r.src s := rfl

theorem core_bitTestRows (n m : Byte) :
    (bitTestRows n m).map (fun r => r.instr.need) = (bitTestRows n m).map fun _ => .core := rfl

theorem bitTest_reads {dst : Loc8} {src : Src8} {s s1 s2 : State} {a b : Byte} (hb : src.read s = .ok (b, s1))
    (ha : (held dst).read s1 = .ok (a, s2)) :
    bitTest dst src s = .ok (s2.withNZ (decide (128 ≤ (a &&& b).toNat)) (decide ((a &&& b).toNat = 0))) := by
  rw [← setNZ_eq_withNZ]
  exact bitTest_ok.2 ⟨b, s1, a, s2, hb, held_read dst s1 ▸ ha, rfl⟩

theorem run_complementRows (n : Byte) (s : State) :
    (complementRows n).map (fun r => (formOf r.instr).run s) =
      (complementRows n).map fun r => complement8 r.loc s := rfl

theorem core_complementRows (n : Byte) :
    (complementRows n).map (fun r => r.instr.need) = (complementRows n).map fun _ => .core := rfl

/-- CPL where SR does not cut the step. -/
theorem complement8_uncut {loc : Loc8} {s s1 : State} {x : Byte} (u : s.uncut)
    (h : (held loc).read s = .ok (x, s1)) :
    complement8 loc s = .ok (storedNZ loc (BitVec.ofNat 8 (255 - x.toNat)) s1) := by
  have value : ~~~x = BitVec.ofNat 8 (255 - x.toNat) := by bv_omega
  rw [← value, ← setNZ_put]
  exact complement8_ok.2 ⟨x, s1, _, held_read loc s ▸ h, write8_uncut ((source8_access h).uncut u) _, rfl⟩

/-! AND, OR, XOR SC,#nn. -/

/-- Every CPU model has the forms whose destination is SC. -/
theorem exec_logicSc {i : Instr} (op : LogicOp) {nn : Byte} (core : i.need = .core)
    (form : formOf i = .logicSc op nn) (s : State) : exec i s = .next (s.setSc (op.eval s.sc nn)) := by
  refine exec_of_run (by rw [WellFormed, core, Need.metBy]) ?_
  rw [form]
  exact logicSc_ok.2 rfl

end Sys2Proof.Machine

namespace Sys2Proof.Laws

open Machine Rules

/-! The obligations, in this namespace because two of them have names of operations of the model. -/

/-- Settles O11: the operation reads the source first and its destination second (`logic8_uncut`). -/
theorem logic8 : Obligations.Logic8 := by
  intro n m w row h s s1 s2 a b u hb ha
  rw [List.map_inj_left.1 (left_logic8Rows n m w) row h] at ha
  exact table_next (core_logic8Rows n m w) (run_logic8Rows n m w s) h (logic8_uncut u hb ha)

/-- Settles O13: BIT stores nothing, so that SR does not matter (`bitTest_reads`); CPL stores its result (`complement8_uncut`). -/
theorem bitTestAndComplement : Obligations.BitTestAndComplement :=
  ⟨fun n m _ h s _ _ _ _ hb ha =>
      table_next (core_bitTestRows n m) (run_bitTestRows n m s) h (bitTest_reads hb ha),
    fun n _ h s _ _ u hx =>
      table_next (core_complementRows n) (run_complementRows n s) h (complement8_uncut u hx)⟩

/-- Settles O12: the three forms of `logicSc`. -/
theorem logicSc : Obligations.LogicSc := fun s _ =>
  ⟨exec_logicSc .and rfl rfl s, exec_logicSc .or rfl rfl s, exec_logicSc .xor rfl rfl s⟩

end Sys2Proof.Laws
end

section
/-! 8-bit transfers (R301 to R358) and EX BA,rp (R413): a value read is written where it goes as it is, with its digits exchanged, or for the value that stood there. -/

namespace Sys2Proof.Machine

open Rules

/-! LD. -/

theorem run_load8Rows (n m : Byte) (w : Word) (s : State) :
    (load8Rows n m w).map (fun r => (formOf r.instr).run s) =
      (load8Rows n m w).map fun r => load8 r.dst r.src s := by
  simp only [load8Rows, List.map_append]
  iterate 5 refine append_congr ?_ rfl
  rfl

/-- LD where SR does not cut the step. -/
theorem load8_uncut {dst : Loc8} {src : Src8} {s s1 : State} {v : Byte} (u : s.uncut)
    (h : src.read s = .ok (v, s1)) : load8 dst src s = .ok (dst.put v s1) :=
  load8_ok.2 ⟨v, s1, h, write8_uncut ((source8_access h).uncut u) v⟩

/-! EX. -/

/-- EX A,[HL] where SR does not cut the step: the first bus cycle changes neither the address nor A. -/
theorem exchangeAHl_uncut {s s1 : State} {m : Byte} (u : s.uncut)
    (h : readByte s (MemOp.hl.ea s) = .ok (m, s1)) :
    exchangeAHl s = .ok ((s1.put (MemOp.hl.ea s) s.a).set8 .a m) := by
  have read := readByte_access h
  have a : s1.a = s.a := read.same State.a fun _ _ _ _ => rfl
  refine exchangeAHl_ok.2 ⟨m, s1, _, h, ?_, rfl⟩
  rw [read.ea, a]
  exact writeByte_uncut (read.uncut u) _ _

theorem run_exchangeBaRows (s : State) :
    exchangeBaRows.map (fun r => (formOf r.instr).run s) = exchangeBaRows.map fun r => exchangeBa r.reg s := rfl

theorem core_exchangeBaRows : exchangeBaRows.map (fun r => r.instr.need) = exchangeBaRows.map fun _ => .core := rfl

/-! SWAP. -/

/-- The byte with its two digits exchanged, as a number (R357). -/
theorem loNibble_append_hiNibble (x : Byte) :
    loNibble x ++ hiNibble x = BitVec.ofNat 8 (16 * (x.toNat % 16) + x.toNat / 16) := by
  refine BitVec.eq_of_toNat_eq ?_
  rw [append_toNat, loNibble_toNat, hiNibble_toNat, BitVec.toNat_ofNat]
  omega

theorem run_swapRows (s : State) :
    swapRows.map (fun r => (formOf r.instr).run s) = swapRows.map fun r => swapDigits r.loc s := rfl

theorem core_swapRows : swapRows.map (fun r => r.instr.need) = swapRows.map fun _ => .core := rfl

/-- SWAP where SR does not cut the step. -/
theorem swapDigits_uncut {loc : Loc8} {s s1 : State} {x : Byte} (u : s.uncut)
    (h : (held loc).read s = .ok (x, s1)) :
    swapDigits loc s = .ok (loc.put (BitVec.ofNat 8 (16 * (x.toNat % 16) + x.toNat / 16)) s1) := by
  rw [← loNibble_append_hiNibble]
  exact swapDigits_ok.2 ⟨x, s1, held_read loc s ▸ h, write8_uncut ((source8_access h).uncut u) _⟩

end Sys2Proof.Machine

namespace Sys2Proof.Laws

open Machine Rules

/-! The obligations, in this namespace because `load8` is an operation of the model. -/

/-- Settles O14: each of the forms is `load8` on the operands of its row, which writes what it reads (`load8_uncut`). -/
theorem load8 : Obligations.Load8 := by
  intro n m w row h s s1 v wf u hv
  exact exec_of_run wf ((List.map_inj_left.1 (run_load8Rows n m w s) row h).trans (load8_uncut u hv))

/-- Settles O15: registers are exchanged without a bus cycle; EX A,[HL] takes two (`exchangeAHl_uncut`); two digits exchanged are a byte again (`loNibble_append_hiNibble`). -/
theorem exchangesAndSwap : Obligations.ExchangesAndSwap :=
  ⟨fun _ => exec_of_run rfl (exchangeAB_ok.2 rfl),
    fun _ _ _ u h => exec_of_run rfl (exchangeAHl_uncut u h),
    fun _ h s => table_next core_exchangeBaRows (run_exchangeBaRows s) h (exchangeBa_ok.2 rfl),
    fun _ h s _ _ u hx => table_next core_swapRows (run_swapRows s) h (swapDigits_uncut u hx)⟩

end Sys2Proof.Laws
end

section
/-! 16-bit transfers (R391 to R412): the word read is written where it goes, in memory its low byte first. -/

namespace Sys2Proof.Machine

open Rules

/-- Every CPU model has the forms of the 16-bit LD. -/
theorem core_load16Rows (n : Byte) (w : Word) :
    (load16Rows n w).map (fun r => r.instr.need) = (load16Rows n w).map fun _ => .core := rfl

theorem run_load16Rows (n : Byte) (w : Word) (s : State) :
    (load16Rows n w).map (fun r => (formOf r.instr).run s) =
      (load16Rows n w).map fun r => load16 r.dst r.src s := rfl

/-- LD of 16 bits where SR does not cut the step: the bus cycles of the source leave those of the destination uncut. -/
theorem load16_uncut {dst : Loc16} {src : Src16} {s s1 : State} {v : Word} (u : s.uncut)
    (h : src.read s = .ok (v, s1)) : load16 dst src s = .ok (dst.put v s1) :=
  load16_ok.2 ⟨v, s1, h, write16_uncut ((source16_access h).uncut u) v⟩

end Sys2Proof.Machine

namespace Sys2Proof.Laws

open Machine Rules

/-! The obligation, in this namespace because `load16` is an operation of the model. -/

/-- Settles O16: each of the forms is `load16` on the operands of its row, which writes the word it reads (`load16_uncut`). -/
theorem load16 : Obligations.Load16 := by
  intro n w row h s s1 v u hv
  exact table_next (core_load16Rows n w) (run_load16Rows n w s) h (load16_uncut u hv)

end Sys2Proof.Laws
end

section
/-! 16-bit arithmetic (R440 to R481): each table of instructions has one meaning on its operands, and no D or U chooses it. -/

namespace Sys2Proof.Machine

open Rules

/-! ADD, ADC, SUB, SBC. -/

theorem addBits_eq_add16 (a b : Word) (cin : Bool) : addBits a b cin = add16 a b cin.toNat := addBits_eq a b cin

theorem subBits_eq_sub16 (a b : Word) (bin : Bool) : subBits a b bin = sub16 a b bin.toNat := subBits_eq a b bin

/-- The 16-bit operation is that of R440, C coming in for ADC and SBC only. -/
theorem on16_eq (op : ArithOp) (s : State) (a b : Word) :
    op.on16 s a b = oneOf (add16 a b (carryIn s op)) (sub16 a b (carryIn s op)) op := by
  cases op with
  | add => exact addBits_eq_add16 a b false
  | adc => exact addBits_eq_add16 a b (s.flag .c)
  | sub => exact subBits_eq_sub16 a b false
  | sbc => exact subBits_eq_sub16 a b (s.flag .c)

/-- No bus cycle changes a register. -/
theorem Access.get16 {s t : State} {x : List Addr} (h : Access s t x) (r : Reg16) : t.get16 r = s.get16 r :=
  h.same (State.get16 · r) fun _ _ _ _ => by cases r <;> rfl

/-- No bus cycle changes the carry that goes in. -/
theorem Access.carryIn {s t : State} {x : List Addr} (h : Access s t x) (op : ArithOp) :
    Rules.carryIn t op = Rules.carryIn s op :=
  h.same (Rules.carryIn · op) fun _ _ _ _ => by cases op <;> rfl

theorem arith16_reads {op : ArithOp} {dst : Reg16} {src : Src16} {s s1 : State} {b : Word}
    (h : src.read s = .ok (b, s1)) :
    arith16 op dst src s = .ok (stored16 dst
      (oneOf (add16 (s.get16 dst) b (carryIn s op)) (sub16 (s.get16 dst) b (carryIn s op)) op) s1) := by
  have read := source16_access h
  rw [← read.get16, ← read.carryIn, ← on16_eq]
  exact arith16_ok.2 ⟨b, s1, h, rfl⟩

theorem run_arith16Rows (w : Word) (s : State) :
    (arith16Rows w).map (fun r => (formOf r.instr).run s) =
      (arith16Rows w).map fun r => arith16 r.op r.dst r.src s := rfl

theorem core_arith16Rows (w : Word) :
    (arith16Rows w).map (fun r => r.instr.need) = (arith16Rows w).map fun _ => .core := rfl

/-! CP. -/

theorem compare16_reads {dst : Reg16} {src : Src16} {s s1 : State} {b : Word} (h : src.read s = .ok (b, s1)) :
    compare16 dst src s = .ok (s1.withNVCZ (sub16 (s.get16 dst) b 0).n (sub16 (s.get16 dst) b 0).v
      (sub16 (s.get16 dst) b 0).c (sub16 (s.get16 dst) b 0).z) := by
  have difference : subBits (s1.get16 dst) b false = sub16 (s.get16 dst) b 0 := by
    rw [(source16_access h).get16]
    exact subBits_eq_sub16 _ b false
  rw [← difference]
  exact compare16_ok.2 ⟨b, s1, h, rfl⟩

theorem run_compare16Rows (w : Word) (s : State) :
    (compare16Rows w).map (fun r => (formOf r.instr).run s) =
      (compare16Rows w).map fun r => compare16 r.left r.right s := rfl

theorem core_compare16Rows (w : Word) :
    (compare16Rows w).map (fun r => r.instr.need) = (compare16Rows w).map fun _ => .core := rfl

/-! INC and DEC. -/

/-- INC with its result and Z as numbers: 65535 is the value whose successor is 0. -/
theorem inc16_eq (r : Reg16) (s : State) :
    inc16 r s = .ok ((s.set16 r (BitVec.ofNat 16 ((s.get16 r).toNat + 1))).setFlag .z
      (decide ((s.get16 r).toNat = 65535))) := by
  have value : s.get16 r + 1#16 = BitVec.ofNat 16 ((s.get16 r).toNat + 1) := by bv_omega
  have zero : (s.get16 r + 1#16 == 0#16) = decide ((s.get16 r).toNat = 65535) := by
    rw [beq_zero_eq_decide, decide_eq_decide]
    bv_omega
  rw [← value, ← zero]
  exact inc16_ok.2 rfl

/-- DEC with its result and Z as numbers: 1 is the value whose predecessor is 0. -/
theorem dec16_eq (r : Reg16) (s : State) :
    dec16 r s = .ok ((s.set16 r (BitVec.ofNat 16 ((s.get16 r).toNat + 65535))).setFlag .z
      (decide ((s.get16 r).toNat = 1))) := by
  have value : s.get16 r - 1#16 = BitVec.ofNat 16 ((s.get16 r).toNat + 65535) := by bv_omega
  have zero : (s.get16 r - 1#16 == 0#16) = decide ((s.get16 r).toNat = 1) := by
    rw [beq_zero_eq_decide, decide_eq_decide]
    bv_omega
  rw [← value, ← zero]
  exact dec16_ok.2 rfl

theorem run_inc16Rows (s : State) :
    inc16Rows.map (fun r => (formOf r.instr).run s) = inc16Rows.map fun r => inc16 r.reg s := rfl

theorem run_dec16Rows (s : State) :
    dec16Rows.map (fun r => (formOf r.instr).run s) = dec16Rows.map fun r => dec16 r.reg s := rfl

theorem core_inc16Rows : inc16Rows.map (fun r => r.instr.need) = inc16Rows.map fun _ => .core := rfl

theorem core_dec16Rows : dec16Rows.map (fun r => r.instr.need) = dec16Rows.map fun _ => .core := rfl

end Sys2Proof.Machine

namespace Sys2Proof.Laws

open Machine Rules

/-! The obligations, in this namespace because `arith16` is an operation of the model. -/

/-- Settles O17: sum and difference are those of R440 (`on16_eq`), and the read of the source changes neither the register nor C (`arith16_reads`, `compare16_reads`). -/
theorem arith16 : Obligations.Arith16 :=
  ⟨fun w _ m s _ _ h => table_next (core_arith16Rows w) (run_arith16Rows w s) m (arith16_reads h),
    fun w _ m s _ _ h => table_next (core_compare16Rows w) (run_compare16Rows w s) m (compare16_reads h)⟩

/-- Settles O18: each form increments or decrements its register (`inc16_eq`, `dec16_eq`). -/
theorem incDec16 : Obligations.IncDec16 :=
  ⟨fun row m s => table_next core_inc16Rows (run_inc16Rows s) m (inc16_eq row.reg s),
    fun row m s => table_next core_dec16Rows (run_dec16Rows s) m (dec16_eq row.reg s)⟩

end Sys2Proof.Laws
end

section
/-! Auxiliary operations and shifts (R501 to R527): a shift by one bit doubles or halves its operand, and the bit that enters is added at the free end. -/

namespace Sys2Proof.Machine

open Rules

/-! Bits of a byte as numbers. -/

theorem getLsbD_seven (x : Byte) : x.getLsbD 7 = decide (128 ≤ x.toNat) :=
  (BitVec.msb_eq_getLsbD_last x).symm.trans (BitVec.msb_eq_decide x)

theorem getLsbD_six (x : Byte) : x.getLsbD 6 = decide (64 ≤ x.toNat % 128) := by
  rw [← BitVec.testBit_toNat, Nat.testBit_eq_decide_div_mod_eq, decide_eq_decide]
  omega

theorem getLsbD_zero (x : Byte) : x.getLsbD 0 = decide (x.toNat % 2 = 1) := Nat.testBit_zero x.toNat

theorem toNat_getLsbD_seven (x : Byte) : (x.getLsbD 7).toNat = x.toNat / 128 :=
  (Nat.toNat_testBit x.toNat 7).trans (Nat.mod_eq_of_lt (Nat.div_lt_of_lt_mul x.isLt))

theorem toNat_getLsbD_zero (x : Byte) : (x.getLsbD 0).toNat = x.toNat % 2 := by
  rw [BitVec.getLsbD, Nat.toNat_testBit, Nat.pow_zero, Nat.div_one]

/-! Shifts and rotates. -/

/-- A byte moved to the left, behind it the bit that enters. -/
theorem append_ofBool_toNat (x : Byte) (b : Bool) :
    (x.extractLsb' 0 7 ++ BitVec.ofBool b).toNat = 2 * x.toNat % 256 + b.toNat := by
  rw [append_toNat, BitVec.extractLsb'_toNat, Nat.shiftRight_zero, BitVec.toNat_ofBool]
  omega

/-- A byte moved to the right, before it the bit that enters. -/
theorem ofBool_append_toNat (x : Byte) (b : Bool) :
    (BitVec.ofBool b ++ x.extractLsb' 1 7).toNat = x.toNat / 2 + 128 * b.toNat := by
  have := x.isLt
  rw [append_toNat, BitVec.extractLsb'_toNat, Nat.shiftRight_eq_div_pow, BitVec.toNat_ofBool]
  omega

/-- The value written back as a number (R504 to R527). -/
theorem result_toNat (op : ShiftOp) (x : Byte) (cin : Bool) :
    (op.result x cin).toNat = shifted x.toNat cin.toNat op := by
  cases op with
  | sla | sll => exact append_ofBool_toNat x false
  | sra => exact (ofBool_append_toNat x _).trans (congrArg (_ + 128 * ·) (toNat_getLsbD_seven x))
  | srl => exact ofBool_append_toNat x false
  | rl => exact append_ofBool_toNat x cin
  | rlc => exact (append_ofBool_toNat x _).trans (congrArg (_ + ·) (toNat_getLsbD_seven x))
  | rr => exact ofBool_append_toNat x cin
  | rrc => exact (ofBool_append_toNat x _).trans (congrArg (_ + 128 * ·) (toNat_getLsbD_zero x))

theorem carry_eq_shiftedOut (op : ShiftOp) (x : Byte) : op.carry x = shiftedOut x.toNat op := by
  cases op with
  | sla | sll | rl | rlc => exact getLsbD_seven x
  | sra | srl | rr | rrc => exact getLsbD_zero x

/-- Doubling leaves -128 to 127 where the two upper bits differ (D27). -/
theorem bne_getLsbD_eq_decide (x : Byte) :
    (x.getLsbD 7 != x.getLsbD 6) = (decide (2 * x.toInt < -128) || decide (127 < 2 * x.toInt)) := by
  have := x.isLt
  rw [getLsbD_seven, getLsbD_six, Bool.eq_iff_iff, bne_iff_ne, ne_eq, decide_eq_decide, Bool.or_eq_true,
    decide_eq_true_eq, decide_eq_true_eq, BitVec.toInt_eq_toNat_cond]
  omega

theorem overflow_eq_shiftedV (op : ShiftOp) (s : State) (x : Byte) : op.overflow s x = shiftedV s x op := by
  cases op with
  | sla => exact bne_getLsbD_eq_decide x
  | sll | sra | srl | rl | rlc | rr | rrc => rfl

/-- Result and flags are those of the rules: N and Z come from the byte written back (R500). -/
theorem apply_eq_shift8 (op : ShiftOp) (s : State) (x : Byte) : op.apply s x = Rules.shift8 s x op := by
  have number := result_toNat op x (s.flag .c)
  have value : op.result x (s.flag .c) = BitVec.ofNat 8 (shifted x.toNat (s.flag .c).toNat op) := by
    rw [← number, BitVec.ofNat_toNat, BitVec.setWidth_eq]
  rw [ShiftOp.apply, BitVec.msb_eq_decide, beq_zero_eq_decide, number, value, carry_eq_shiftedOut,
    overflow_eq_shiftedV]
  rfl

/-- No bus cycle changes C or V. -/
theorem Access.shift8 {s t : State} {l : List Addr} (h : Access s t l) (x : Byte) (op : ShiftOp) :
    Rules.shift8 t x op = Rules.shift8 s x op :=
  h.same (Rules.shift8 · x op) fun _ _ _ _ => by cases op <;> rfl

/-- A shift or rotate where SR does not cut the step. -/
theorem shift8_uncut {op : ShiftOp} {loc : Loc8} {s s1 : State} {x : Byte} (u : s.uncut)
    (h : (held loc).read s = .ok (x, s1)) :
    shift8 op loc s = .ok (stored8 loc (Rules.shift8 s x op) s1) := by
  have read := source8_access h
  rw [← read.shift8, ← apply_eq_shift8]
  exact shift8_ok.2 ⟨x, s1, _, held_read loc s ▸ h, write8_uncut (read.uncut u) _, rfl⟩

theorem run_shiftRows (n : Byte) (s : State) :
    (shiftRows n).map (fun r => (formOf r.instr).run s) = (shiftRows n).map fun r => shift8 r.op r.loc s := rfl

theorem core_shiftRows (n : Byte) : (shiftRows n).map (fun r => r.instr.need) = (shiftRows n).map fun _ => .core := rfl

/-! PACK, UPCK, SEP. -/

/-- Two digits as a byte (R501). -/
theorem loNibble_append_loNibble (x y : Byte) :
    loNibble x ++ loNibble y = BitVec.ofNat 8 (16 * (x.toNat % 16) + y.toNat % 16) := by
  refine BitVec.eq_of_toNat_eq ?_
  rw [append_toNat, loNibble_toNat, loNibble_toNat, BitVec.toNat_ofNat]
  omega

/-- A digit alone in a byte (R502). -/
theorem zero_append_eq_ofNat (d : BitVec 4) : 0#4 ++ d = BitVec.ofNat 8 d.toNat := by
  refine BitVec.eq_of_toNat_eq ?_
  rw [append_toNat, BitVec.toNat_ofNat, BitVec.toNat_ofNat]
  omega

theorem packDigits_eq (s : State) :
    packDigits s = .ok (s.set8 .a (BitVec.ofNat 8 (16 * (s.b.toNat % 16) + s.a.toNat % 16))) := by
  rw [packDigits, loNibble_append_loNibble]

theorem unpackDigits_eq (s : State) :
    unpackDigits s = .ok ((s.set8 .b (BitVec.ofNat 8 (s.a.toNat / 16))).set8 .a (BitVec.ofNat 8 (s.a.toNat % 16))) := by
  rw [unpackDigits, zero_append_eq_ofNat, zero_append_eq_ofNat, hiNibble_toNat, loNibble_toNat]

theorem signExtendA_eq (s : State) :
    signExtendA s = .ok (s.set8 .b (if 128 ≤ s.a.toNat then 0xFF#8 else 0x00#8)) := by
  simp only [signExtendA, getLsbD_seven, decide_eq_true_eq]

/-! The obligations. -/

/-- Settles O19: each form moves the operand it has read (`shift8_uncut`), and what it computes from it is what the rules say (`apply_eq_shift8`). -/
theorem shifts : Obligations.Shifts := fun n _ m s _ _ u h =>
  table_next (core_shiftRows n) (run_shiftRows n s) m (shift8_uncut u h)

/-- Settles O20: digits and the sign of A as numbers (`packDigits_eq`, `unpackDigits_eq`, `signExtendA_eq`). -/
theorem digitOperations : Obligations.DigitOperations :=
  ⟨rfl, rfl, rfl, rfl, rfl, rfl, fun s => ⟨exec_of_run rfl (packDigits_eq s), exec_of_run rfl (unpackDigits_eq s),
    exec_of_run rfl (signExtendA_eq s)⟩⟩

end Sys2Proof.Machine
end

section
/-! PUSH and then POP (R65, R567): bytes pushed into RAM where nothing comes from the outside are read back, the last one first, and a register that is loaded with its own bytes keeps its value. -/

namespace Sys2Proof.Machine

open Rules

/-! Bytes read back from the stack. -/

/-- Two offsets of the stack page are two addresses, on every model. -/
theorem stackAddr_inj {s : State} {x y : Word} : stackAddr s x = stackAddr s y ↔ x = y := by
  refine ⟨fun h => ?_, congrArg _⟩
  simpa only [stackAddr, dataAddr_setWidth] using congrArg (BitVec.setWidth 16) h

/-- The bytes below SP by their distance from it. -/
theorem mem_belowSp {s : State} {n : Nat} {a : Addr} :
    a ∈ belowSp s n ↔ ∃ i < n, a = stackAddr s (s.sp - BitVec.ofNat 16 (i + 1)) := by
  induction n generalizing s with
  | zero => simp [belowSp]
  | succ n ih =>
    have e (i : Nat) : s.sp - 1#16 - BitVec.ofNat 16 (i + 1) = s.sp - BitVec.ofNat 16 (i + 1 + 1) := by bv_omega
    have c (x : Word) : stackAddr (s.setSp (s.sp - 1#16)) x = stackAddr s x := dataAddr_cfg rfl _ _
    rw [belowSp, List.mem_cons, ih, Nat.exists_lt_succ_left]
    simp only [State.setSp_sp, e, c, Nat.zero_add]

/-- The byte next below SP is none of those below it, as long as these do not wrap around to it (D28). -/
theorem stackAddr_not_mem_belowSp (s : State) {n : Nat} (h : n < 65536) : stackAddr s s.sp ∉ belowSp s n := by
  intro m
  obtain ⟨i, hi, e⟩ := mem_belowSp.1 m
  have := stackAddr_inj.1 e
  bv_omega

/-- Bus cycles do not look at SP. -/
theorem Access.setSp {s t : State} {z : List Addr} (h : Access s t z) (v : Word) :
    Access (s.setSp v) (t.setSp v) z :=
  ⟨congrArg (·.setSp v) h.only, h.wf, h.uncut, h.master, h.other⟩

theorem Access.sp {s t : State} {z : List Addr} (h : Access s t z) : t.sp = s.sp := h.same State.sp fun _ _ _ _ => rfl

/-- A byte written to RAM is still read behind accesses that store elsewhere. -/
theorem readByte_behind {s u : State} {a : Addr} {v : Byte} {z : List Addr} (q : s.bus = []) (k : s.kindAt a = .ram)
    (h : Access (s.put a v) u z) (n : a ∉ z) (qu : u.bus = []) : readByte u a = .ok (v, u.record (.read a v)) := by
  have write := writeByte_uncut (uncut_quiet q) a v
  have noMaster := masterBytes_quiet (writeByte_bus_quiet q write)
  refine readByte_ram qu ((h.kindAt a).trans (((writeByte_access write).kindAt a).trans k)) ?_
  rw [h.other a n (by simp [noMaster]), writeByte_ram_byteAt k write, if_pos rfl]

/-- Bytes pushed into RAM are read back, the last one first; behind this SP is as before, and only the bytes below it have changed. -/
theorem pushed_readBack {s : State} (q : s.bus = []) {l : List Byte} (ram : inRam s (belowSp s l.length))
    (h : l.length ≤ 65536) :
    ∃ u, stackHolds (pushed l s) l.reverse u ∧ Access s u (belowSp s l.length) ∧ u.bus = [] := by
  induction l generalizing s with
  | nil => exact ⟨s, rfl, .refl s, q⟩
  | cons v l ih =>
    obtain ⟨ramHere, ramBelow⟩ := List.forall_mem_cons.1 ram
    have ql : (s.setSp (s.sp - 1#16)).bus = [] := q
    have write := writeByte_uncut (uncut_quiet ql) (stackAddr s (s.sp - 1#16)) v
    have acc := writeByte_access write
    obtain ⟨u, holds, back, qu⟩ := ih (writeByte_bus_quiet ql write)
      (by
        rw [belowSp_congr acc.sp acc.cfg]
        exact fun b m => (acc.kindAt b).trans (ramBelow b m))
      (Nat.le_of_succ_le h)
    rw [belowSp_congr acc.sp acc.cfg] at back
    have both := acc.trans back
    have spu : u.sp = s.sp - 1#16 := both.sp
    have read := readByte_behind ql ramHere back (stackAddr_not_mem_belowSp (s.setSp _) h) qu
    refine ⟨(u.record (.read (stackAddr s (s.sp - 1#16)) v)).setSp s.sp, ?_, ?_, qu⟩
    · rw [List.reverse_cons]
      refine stackHolds_append.2 ⟨u, holds, u.record (.read (stackAddr s (s.sp - 1#16)) v), ?_, ?_⟩
      · rw [spu, stackAddr, both.cfg, dataAddr_cfg both.cfg]
        exact read
      · rw [State.record_sp, spu, BitVec.sub_add_cancel]
        rfl
    · have access := (both.trans (record_access u (.read (stackAddr s (s.sp - 1#16)) v))).setSp s.sp
      rw [List.append_nil] at access
      exact access

/-- Bus cycles with which nothing comes change, but for the bytes they store, the trace alone. -/
theorem Access.framed_quiet {s t : State} {z : List Addr} (h : Access s t z) (q : s.bus = []) (qt : t.bus = []) :
    Framed s t [.trace] [] z := by
  obtain ⟨hf, hg, ha⟩ := kept_iff.1 h.within.kept
  refine ⟨fun f n => ?_, hg, fun a n => ha a n fun _ => by simp [masterBytes_quiet q]⟩
  by_cases e : f = .bus
  · exact e ▸ qt.trans q.symm
  · exact hf f List.not_mem_nil fun _ => ⟨e, fun e => n (e ▸ List.mem_cons_self)⟩

/-! Registers loaded with their own bytes. -/

theorem set8_get8 (s : State) (r : Reg8) : s.set8 r (s.get8 r) = s := by cases r <;> rfl

theorem set16_get16 (s : State) (r : Reg16) : s.set16 r (s.get16 r) = s := by
  cases r <;> simp [State.set16, State.get16, State.ba, State.hl, State.setSp]

theorem itemsBytes_length (s : State) (is : List Item) : (itemsBytes s is).length = itemsSize is := by
  induction is with
  | nil => rfl
  | cons i is ih =>
    cases i with
    | byte r => rw [itemsBytes, List.length_cons, ih, itemsSize, Nat.add_comm]
    | word r => rw [itemsBytes, List.length_cons, List.length_cons, ih, itemsSize, Nat.add_comm 2]

theorem itemsSize_reverse (is : List Item) : itemsSize is.reverse = itemsSize is := by
  induction is with
  | nil => rfl
  | cons i is ih =>
    rw [List.reverse_cons, itemsSize_append, ih, Nat.add_comm, ← itemsSize_append, List.singleton_append]

theorem itemsBytes_reverse_length (s : State) (is : List Item) :
    (itemsBytes s is).reverse.length = itemsSize is.reverse := by
  rw [List.length_reverse, itemsBytes_length, itemsSize_reverse]

/-- Registers loaded in the order opposite to their push keep their values. -/
theorem itemsLoaded_own (s : State) (is : List Item) : itemsLoaded is.reverse (itemsBytes s is).reverse s = s := by
  induction is with
  | nil => rfl
  | cons i is ih =>
    have split : (itemsBytes s (i :: is)).reverse = (itemsBytes s is).reverse ++ (itemsBytes s [i]).reverse := by
      rw [← List.reverse_append, ← itemsBytes_append, List.singleton_append]
    rw [List.reverse_cons, split, itemsLoaded_append _ _ _ _ _ (itemsBytes_reverse_length s is), ih]
    cases i with
    | byte r => exact set8_get8 s r
    | word r => exact (congrArg (s.set16 r) (pair_hi_lo _)).trans (set16_get16 s r)

/-- The registers behind bus cycles give the same bytes. -/
theorem Access.itemsBytes {s t : State} {z : List Addr} (h : Access s t z) {is : List Item} (n : ApartSp is) :
    Rules.itemsBytes t is = Rules.itemsBytes s is :=
  h.same (Rules.itemsBytes · is) fun _ _ _ _ =>
    itemsBytes_congr (fun r => by cases r <;> rfl) (fun r _ => by cases r <;> rfl) n

/-- What pushes the registers into RAM and then what pops them in the opposite order: nothing but the bytes below SP and the trace has changed. -/
theorem stores_loads {is : List Item} {f g : State → Result State} (push : Stores is f) (pop : Loads is.reverse g)
    (n : ApartSp is) (h : itemsSize is ≤ 65536) {s : State} (q : s.bus = [])
    (ram : inRam s (belowSp s (itemsSize is))) :
    ∃ t u, f s = .ok t ∧ g t = .ok u ∧ t.cfg = s.cfg ∧ Framed s u [.trace] [] (belowSp s (itemsSize is)) := by
  rw [← itemsBytes_length s] at h ram ⊢
  obtain ⟨u, holds, back, qu⟩ := pushed_readBack q ram h
  have load := pop _ u _ (itemsBytes_reverse_length s is) holds
  have own := itemsLoaded_own u is
  rw [back.itemsBytes n] at own
  rw [own] at load
  have cfg := pushed_same (uncut_quiet q) (itemsBytes s is) State.cfg (fun _ _ _ _ => rfl) fun _ _ => rfl
  exact ⟨_, u, push s (uncut_quiet q), load, cfg, back.framed_quiet q qu⟩

/-! The pairs. -/

theorem pushRows_eq : pushRows = stackPairs.map Prod.fst := rfl

/-- Each POP takes the registers of its PUSH in the opposite order (R567). -/
theorem popRows_eq : popRows = stackPairs.map fun p => ⟨p.2, p.1.items.reverse⟩ := rfl

/-- A model that has a PUSH has its POP. -/
theorem need_stackPairs : stackPairs.map (fun p => p.2.need) = stackPairs.map fun p => p.1.instr.need := rfl

theorem stackPairs_items : ∀ p ∈ stackPairs, ApartSp p.1.items ∧ itemsSize p.1.items ≤ 12 := by decide

/-- Settles O57: PUSH stores and its POP loads the same registers in the opposite order (`stores_loads`). -/
theorem pushThenPop : Obligations.PushThenPop := by
  intro p m s w q ram
  obtain ⟨apart, size⟩ := stackPairs_items p m
  have push := pushRows_store p.1 (pushRows_eq ▸ List.mem_map_of_mem m)
  have pop := popRows_load ⟨p.2, p.1.items.reverse⟩ (popRows_eq ▸ List.mem_map_of_mem m)
  obtain ⟨t, u, ht, hu, cfg, framed⟩ := stores_loads push pop apart (by omega) q ram
  have wt : WellFormed t.cfg.model p.2 := by
    rw [WellFormed, List.map_inj_left.1 need_stackPairs p m, cfg]
    exact w
  exact ⟨t, u, exec_of_run w ht, exec_of_run wt hu, framed⟩

end Sys2Proof.Machine
end

section
/-! Branches (R590 to R616): conditions and targets as the rules write them, the frame that a call pushes and a return pops, and the vector field. -/

namespace Sys2Proof.Machine

open Rules

/-! Conditions and targets. -/

/-- A level of F0 to F3 as a digit of the number CC (R38). -/
theorem pin_getLsbD (x : BitVec 4) (i : Nat) : x.getLsbD i = decide (x.toNat / 2 ^ i % 2 = 1) :=
  Nat.testBit_eq_decide_div_mod_eq

theorem not_decide_odd (n : Nat) : (!decide (n % 2 = 1)) = decide (n % 2 = 0) := by
  rw [← decide_not, decide_eq_decide]
  omega

/-- The conditions of the model are those of R593. -/
theorem cond_holds_eq (s : State) (cond : Cond) : cond.holds s = conditionHolds s cond := by
  cases cond with
  | always | lt | le => rfl
  | c | nc | z | nz | v | nv | p | m => simp [Cond.holds, conditionHolds]
  | gt | ge =>
    unfold Cond.holds conditionHolds
    cases s.flag .z <;> cases s.flag .n <;> cases s.flag .v <;> rfl
  | f0 => exact Nat.testBit_zero _
  | f1 | f2 | f3 => exact pin_getLsbD s.pins.f _
  | nf0 => exact (congrArg not (Nat.testBit_zero _)).trans (not_decide_odd _)
  | nf1 | nf2 | nf3 => exact (congrArg not (pin_getLsbD s.pins.f _)).trans (not_decide_odd _)

/-- The target of a relative branch as a number (R594): it wraps modulo 65536 (D29). -/
theorem relTarget_eq (s : State) (offset : Word) : relTarget s offset = relative s offset := by
  have bound := offset.isLt
  refine BitVec.eq_of_toNat_eq ?_
  rw [relTarget, relative, BitVec.toNat_ofInt, BitVec.toInt_eq_toNat_cond]
  split <;> bv_omega

theorem branched_eq (target : Word) (s : State) : branched target s = branch target s := by
  unfold branched branch loadBank
  rw [State.setPc_cfg]
  cases s.cfg.model <;> rfl

theorem fellThrough_eq (s : State) : fellThrough s = noBranch s := by
  unfold fellThrough noBranch keepBank
  cases s.cfg.model <;> rfl

/-! The vector field. -/

/-- The lower byte of a vector is at 0000kkH on every model (R73). -/
theorem vectorAddr_zero (s : State) (kk : Byte) : dataAddr s 0x00#8 (pair 0x00#8 kk) = vectorAddr kk 0 := by
  have bound := kk.isLt
  refine BitVec.eq_of_toNat_eq ?_
  rw [dataAddr_toNat, pair_toNat, vectorAddr]
  simp only [BitVec.toNat_ofNat]
  split <;> omega

/-- The upper byte is at the next address, for FFH at 000100H (D3). -/
theorem vectorAddr_one (s : State) (kk : Byte) : dataAddr s 0x00#8 (pair 0x00#8 kk + 1#16) = vectorAddr kk 1 := by
  have bound := kk.isLt
  refine BitVec.eq_of_toNat_eq ?_
  rw [dataAddr_toNat, BitVec.toNat_add, pair_toNat, vectorAddr]
  simp only [BitVec.toNat_ofNat]
  split <;> omega

/-- A vector is read byte by byte, wherever its second byte stands. -/
theorem readVector_ok {s t : State} {kk : Byte} {v : Word} :
    readVector s kk = .ok (v, t) ↔ vectorIs s kk v t := by
  simp only [readVector, readWord_ok, vectorIs, vectorAddr_zero, vectorAddr_one]

/-- A word whose low byte cannot be read is not read. -/
theorem readWord_error {s : State} {page : Byte} {a : Word} {e : Stop}
    (h : readByte s (dataAddr s page a) = .error e) : readWord s page a = .error e :=
  bind_error.2 (.inl h)

theorem readVector_error {s : State} {kk : Byte} {e : Stop} (h : readByte s (vectorAddr kk 0) = .error e) :
    readVector s kk = .error e :=
  readWord_error (by rw [vectorAddr_zero, h])

/-! Instructions and their forms. -/

/-- An instruction that the model has faults where its form does. -/
theorem exec_fault_of_run {i : Instr} {s : State} {f : Fault} (w : WellFormed s.cfg.model i)
    (h : (formOf i).run s = .error (.fault f)) : exec i s = .fault f := by
  rw [exec_form, requires_met w, h, conclude]

/-- Where SR does not cut the step, an instruction that answers is its form's answer. -/
theorem run_of_exec {i : Instr} {s t : State} (u : s.uncut) (h : exec i s = .next t) :
    (formOf i).run s = .ok t := by
  obtain ⟨-, h | ⟨v, h, -⟩⟩ := exec_next.1 h
  · exact h
  · exact absurd h (((formOf i).run_runs s).noReset (fun _ => u) v)

/-! Jumps. -/

theorem run_jumpRows (n : Byte) (w : Word) (s : State) :
    (jumpRows n w).map (fun r => (formOf r.instr).run s) = (jumpRows n w).map fun r => jump r.cond r.offset s := rfl

theorem core_jumpRows (n : Byte) (w : Word) :
    (jumpRows n w).map (fun r => r.instr.need) = (jumpRows n w).map fun _ => .core := rfl

/-- Settles O23: the conditions, the targets and the two ends of a branch are those of the rules. -/
theorem jumps : Obligations.Jumps := by
  intro n w row m s
  rw [← cond_holds_eq, branched_eq, fellThrough_eq, ← relTarget_eq]
  exact table_next (core_jumpRows n w) (run_jumpRows n w s) m (jump_ok.2 rfl)

/-- Settles O25: a branch to a word that a register pair or the vector field holds. -/
theorem jumpIndirect : Obligations.JumpIndirect := by
  refine ⟨fun s => ?_, fun s t kk v h => ?_⟩
  · have target : BitVec.ofNat 16 (256 * s.h.toNat + s.l.toNat) = s.hl :=
      BitVec.eq_of_toNat_eq (by rw [← pair_toNat, BitVec.ofNat_toNat, BitVec.setWidth_eq]; rfl)
    rw [target, branched_eq]
    exact exec_of_run rfl rfl
  · rw [branched_eq]
    exact exec_of_run rfl (jumpVector_ok.2 ⟨v, t, readVector_ok.2 h, rfl⟩)

/-! The frames of calls and exceptions. -/

theorem pushed_bus_quiet {s : State} (q : s.bus = []) (l : List Byte) : (pushed l s).bus = [] := by
  induction l generalizing s with
  | nil => exact q
  | cons v l ih =>
    have ql : (s.setSp (s.sp - 1#16)).bus = [] := q
    exact ih (writeByte_bus_quiet ql (writeByte_uncut (uncut_quiet ql) _ v))

theorem pushed_cfg {s : State} (u : s.uncut) (l : List Byte) : (pushed l s).cfg = s.cfg :=
  pushed_same u l State.cfg (fun _ _ _ _ => rfl) fun _ _ => rfl

theorem pushed_ep {s : State} (u : s.uncut) (l : List Byte) : (pushed l s).ep = s.ep :=
  pushed_same u l State.ep (fun _ _ _ _ => rfl) fun _ _ => rfl

/-- Where SR does not cut the step, a push of 16 bits answers. -/
theorem push16_uncut {s : State} (u : s.uncut) (v : Word) :
    push16 v s = .ok (pushed [hiByte v, loByte v] s) :=
  push16_ok.2 ⟨_, push8_uncut u _, push8_uncut (pushed_uncut u [hiByte v]) _⟩

theorem callPush_uncut {s : State} (u : s.uncut) : callPush s = .ok (pushed (callFrame s) s) := by
  rw [callPush_ok, callFrame]
  split
  · have pc : (pushed [s.cb] s).pc = s.pc := pushed_same u _ State.pc (fun _ _ _ _ => rfl) fun _ _ => rfl
    have second := push16_uncut (pushed_uncut u [s.cb]) (pushed [s.cb] s).pc
    rw [pc] at second
    exact ⟨_, push8_uncut u s.cb, by rw [pc]; exact second⟩
  · exact push16_uncut u s.pc

theorem pushFrame_uncut {s : State} (u : s.uncut) : pushFrame s = .ok (pushed (exceptionFrame s) s) := by
  have sc : (pushed (callFrame s) s).sc = s.sc := pushed_same u _ State.sc (fun _ _ _ _ => rfl) fun _ _ => rfl
  rw [exceptionFrame, pushed_append]
  exact pushFrame_ok.2 ⟨_, callPush_uncut u, by rw [sc]; exact push8_uncut (pushed_uncut u _) s.sc⟩

/-! Calls. -/

theorem run_callRows (n : Byte) (w : Word) (s : State) :
    (callRows n w).map (fun r => (formOf r.instr).run s) = (callRows n w).map fun r => call r.cond r.offset s := rfl

theorem core_callRows (n : Byte) (w : Word) :
    (callRows n w).map (fun r => r.instr.need) = (callRows n w).map fun _ => .core := rfl

/-- Settles O26: a call that is taken pushes its frame (`callPush_uncut`) and branches. -/
theorem calls : Obligations.Calls := by
  intro n w row m s
  have next {t : State} (h : call row.cond row.offset s = .ok t) : exec row.instr s = .next t :=
    table_next (core_callRows n w) (run_callRows n w s) m h
  rw [← cond_holds_eq, branched_eq, fellThrough_eq, ← relTarget_eq]
  refine ⟨fun c u => next (call_ok.2 ?_), fun c => next (call_ok.2 ?_)⟩
  · rw [if_pos c]
    exact ⟨_, callPush_uncut u, rfl⟩
  · rw [if_neg (by simp [c])]

/-! Returns. -/

/-- SC, PC and the banks are loaded apart from the stack. -/
theorem setPc_offStack (v : Word) : OffStack (·.setPc v) := by constructor <;> intros <;> rfl

theorem setSc_offStack (v : Byte) : OffStack (·.setSc v) := by constructor <;> intros <;> rfl

theorem pop8_stackHolds {s t : State} {v : Byte} (h : stackHolds s [v] t) : pop8 s = .ok (v, t) := by
  obtain ⟨u, hu, ht⟩ := h
  exact pop8_ok.2 ⟨u, hu, ht⟩

theorem pop16_stackHolds {s t : State} {lo hi : Byte} (h : stackHolds s [lo, hi] t) :
    pop16 s = .ok (pair hi lo, t) := by
  obtain ⟨u, hu, ht⟩ := stackHolds_append (x := [lo]).1 h
  exact pop16_ok.2 ⟨lo, u, hi, pop8_stackHolds hu, pop8_stackHolds ht, rfl⟩

/-- A return outside the maximum mode: PC. -/
theorem retPop_minimum {s t : State} {lo hi : Byte} (m : s.cfg.maxMode = false) (h : stackHolds s [lo, hi] t) :
    retPop s = .ok (t.setPc (pair hi lo)) :=
  retPop_ok.2 ⟨_, t, pop16_stackHolds h, by rw [if_neg (by simp [m])]⟩

/-- A return in the maximum mode: PC, then one byte for both banks. -/
theorem retPop_maximum {s t : State} {lo hi bank : Byte} (m : s.cfg.maxMode = true)
    (h : stackHolds s [lo, hi, bank] t) :
    retPop s = .ok (((t.setPc (pair hi lo)).setCb bank).setNb bank) := by
  obtain ⟨u, hu, ht⟩ := stackHolds_append (x := [lo, hi]).1 h
  refine retPop_ok.2 ⟨_, u, pop16_stackHolds hu, ?_⟩
  rw [if_pos m]
  exact ⟨bank, _, pop8_stackHolds ((setPc_offStack _).stackHolds ht), rfl⟩

/-- RETE: SC, then a return. -/
theorem exceptionReturn_stackHolds {s u r : State} {sc : Byte} (h : stackHolds s [sc] u)
    (k : retPop (u.setSc sc) = .ok r) : exceptionReturn s = .ok r :=
  exceptionReturn_ok.2 ⟨sc, u, pop8_stackHolds h, k⟩

theorem stackHolds_cfg {l : List Byte} {s t : State} (h : stackHolds s l t) : t.cfg = s.cfg := by
  induction l generalizing s with
  | nil => rw [show t = s from h]
  | cons v l ih =>
    obtain ⟨u, hu, ht⟩ := h
    exact (ih ht).trans (readByte_access hu).cfg

/-- Settles O28: RET is the return, and RETS adds 2 to the PC it gives. -/
theorem returns : Obligations.Returns := by
  intro s t lo hi bank
  have next {r : State} (h : retPop s = .ok r) :
      exec .ret s = .next r ∧ exec .rets s = .next (r.setPc (r.pc + 2#16)) :=
    ⟨exec_of_run rfl h, exec_of_run rfl (returnSkip_ok.2 ⟨r, h, rfl⟩)⟩
  refine ⟨fun m h => ?_, fun m h => ?_⟩
  · obtain ⟨ret, rets⟩ := next (retPop_minimum m h)
    exact ⟨ret, rets, stackHolds_sp h⟩
  · obtain ⟨ret, rets⟩ := next (retPop_maximum m h)
    exact ⟨ret, rets, stackHolds_sp h⟩

/-- Settles O29: SC is popped first, and the return behind it does not look at it. -/
theorem returnFromException : Obligations.ReturnFromException := by
  intro s t sc lo hi bank
  refine ⟨fun m h => ?_, fun m h => ?_⟩
  all_goals
    obtain ⟨u, hu, ht⟩ := stackHolds_append (x := [sc]).1 h
    have mu : (u.setSc sc).cfg.maxMode = _ := (congrArg Config.maxMode (stackHolds_cfg hu)).trans m
    have rest := (setSc_offStack sc).stackHolds ht
    refine ⟨exec_of_run rfl (exceptionReturn_stackHolds hu ?_), stackHolds_sp h⟩
  · exact retPop_minimum mu rest
  · exact retPop_maximum mu rest

end Sys2Proof.Machine

namespace Sys2Proof.Laws

open Machine Rules

/-! Three obligations, in this namespace because they have names of operations of the model. -/

/-- Settles O24: B becomes 0 exactly where it was 1. -/
theorem decrementJump : Obligations.DecrementJump := by
  refine ⟨fun rr => ⟨rfl, rfl⟩, fun s rr => ?_⟩
  have value : s.b - 1#8 = BitVec.ofNat 8 (s.b.toNat + 255) := by bv_omega
  refine ⟨fun h => ?_, fun h => ?_⟩
  · have nonzero : s.b - 1#8 ≠ 0#8 := by bv_omega
    rw [branched_eq, ← relTarget_eq, ← value]
    refine exec_of_run rfl (decrementJump_ok.2 ?_)
    rw [if_neg nonzero, beq_false_of_ne nonzero]
    rfl
  · have zero : s.b - 1#8 = 0#8 := by bv_omega
    rw [fellThrough_eq]
    refine exec_of_run rfl (decrementJump_ok.2 ?_)
    rw [zero]
    rfl

/-- Settles O27: the pointer is read behind the frame, in the page EP, which no push changes. -/
theorem callIndirect : Obligations.CallIndirect := by
  refine ⟨fun s u t hhll lo hi uncut hlo hhi => ?_, fun s hhll f q h => ?_⟩
  · have page := dataAddr_cfg (pushed_cfg uncut (callFrame s)) s.ep
    have pageBehind := dataAddr_cfg (readByte_access hlo).cfg s.ep
    rw [branched_eq]
    refine exec_of_run rfl (callIndirect_ok.2 ⟨_, callPush_uncut uncut, pair hi lo, t, ?_, rfl⟩)
    rw [pushed_ep uncut]
    exact readWord_ok.2 ⟨lo, hi, u, by rw [page, hlo], by rw [pageBehind, page, hhi], rfl⟩
  · have uncut := uncut_quiet q
    refine ⟨exec_fault_of_run rfl ?_, readByte_fault_quiet (pushed_bus_quiet q _) h⟩
    refine bind_error.2 (.inr ⟨_, callPush_uncut uncut, bind_error.2 (.inl (readWord_error ?_))⟩)
    rw [pushed_ep uncut, dataAddr_cfg (pushed_cfg uncut _), h]

/-- Settles O30: the entry with the status set first, and the mask as it is. -/
theorem softInterrupt : Obligations.SoftInterrupt := by
  have frame {s : State} (u : s.uncut) : pushFrame (s.setStatus .exception) =
      .ok (pushed (exceptionFrame s) (s.setStatus .exception)) := pushFrame_uncut (s := s.setStatus .exception) u
  refine ⟨fun s t kk v u h => ?_, fun s kk f q h => ?_⟩
  · rw [branched_eq]
    exact exec_of_run rfl (softInterrupt_ok.2 ⟨_, frame u, v, t, readVector_ok.2 h, rfl⟩)
  · refine ⟨exec_fault_of_run rfl ?_, readByte_fault_quiet (pushed_bus_quiet (s := s.setStatus .exception) q _) h⟩
    exact bind_error.2 (.inr ⟨_, frame (uncut_quiet q), bind_error.2 (.inl (readVector_error h))⟩)

end Sys2Proof.Laws
end

section
/-! System control (R640 to R642), and exceptions (R650 to R672): which factor a sampling point takes, how it is entered, and what RET and RETE undo. -/

namespace Sys2Proof.Machine

open Rules

/-! System control. -/

/-- Settles O31: the three forms answer at once. -/
theorem systemControl : Obligations.SystemControl :=
  ⟨rfl, rfl, rfl, fun _ => ⟨exec_of_run rfl rfl, exec_of_run rfl rfl, exec_of_run rfl rfl⟩⟩

/-! The exception entry. -/

/-- The lock of the bus is that of R671. -/
theorem locked_eq (s : State) : locked s = lockBus s := by
  unfold locked lockBus sealRest
  cases s.bus <;> rfl

theorem maskedFor_eq (s : State) (f : Factor) : maskedFor s f = f.mask s := by cases f <;> rfl

theorem vectorOf_eq (s : State) (f : Factor) : vectorOf s f = f.vector s := by cases f <;> rfl

theorem unlatched_eq (s : State) (f : Factor) : unlatched s f = clearLatch f s := by cases f <;> rfl

/-- The vector address depends on the inputs alone. -/
theorem vector_congr {s t : State} (h : t.pins = s.pins) (f : Factor) : f.vector t = f.vector s := by
  unfold Factor.vector
  rw [h]

theorem mask_pins (f : Factor) (s : State) : (f.mask s).pins = s.pins := by rw [mask_sc]; rfl

/-- Where an entry stands behind its frame and the mask, before it reads the vector. -/
def behindFrame (f : Factor) (s : State) : State := f.mask (pushed (exceptionFrame s) (acknowledge (lockBus s)))

theorem lockBus_uncut {s : State} (u : s.uncut) : (lockBus s).uncut := (lockBus_access s).uncut u

/-- The lock of the bus and the status change nothing that the frame is made of. -/
theorem exceptionFrame_entry (s : State) : exceptionFrame (acknowledge (lockBus s)) = exceptionFrame s := by
  simp [exceptionFrame, callFrame]

theorem pushFrame_entry {s : State} (u : s.uncut) : pushFrame (acknowledge (lockBus s)) =
    .ok (pushed (exceptionFrame s) (acknowledge (lockBus s))) := by
  rw [← exceptionFrame_entry s]
  exact pushFrame_uncut (s := acknowledge (lockBus s)) (lockBus_uncut u)

theorem behindFrame_vector {s : State} (u : s.uncut) (f : Factor) : f.vector (behindFrame f s) = f.vector s := by
  refine vector_congr ((mask_pins f _).trans ?_) f
  rw [pushed_same (s := acknowledge (lockBus s)) (lockBus_uncut u) _ State.pins (fun _ _ _ _ => rfl) fun _ _ => rfl]
  simp

/-- An entry that SR does not cut reads its vector behind the frame. -/
theorem exceptionEntry_of_vector {f : Factor} {s t : State} {v : Word} (u : s.uncut)
    (h : vectorIs (behindFrame f s) (f.vector s) v t) : exceptionEntry f s = .ok ((branch v t).setStatus .run) :=
  exceptionEntry_ok.2 ⟨_, v, t, pushFrame_entry u, readVector_ok.2 (behindFrame_vector u f ▸ h), rfl⟩

/-- Where the low byte of the vector cannot be read, the entry ends there. -/
theorem exceptionEntry_of_fault {f : Factor} {s : State} {e : Stop} (u : s.uncut)
    (h : readByte (behindFrame f s) (vectorAddr (f.vector s) 0) = .error e) : exceptionEntry f s = .error e :=
  bind_error.2 (.inr ⟨_, pushFrame_entry u,
    bind_error.2 (.inl (readVector_error (behindFrame_vector u f ▸ h)))⟩)

/-- A bus with nothing on it is closed as it is. -/
theorem sealBus_quiet {s : State} (q : s.bus = []) : sealBus s = s := by
  rw [sealBus, q, List.map_nil, ← q]
  rfl

theorem lockBus_quiet {s : State} (q : s.bus = []) : lockBus s = s := by
  unfold lockBus sealRest
  rw [q, sealBus_quiet q]
  split <;> rfl

/-- With nothing coming from the outside, nothing comes behind the frame. -/
theorem behindFrame_bus_quiet {s : State} (q : s.bus = []) (f : Factor) : (behindFrame f s).bus = [] := by
  rw [behindFrame, mask_sc, lockBus_quiet q]
  exact pushed_bus_quiet (s := acknowledge s) q _

/-- Settles O10: DIV by zero is the entry of a zero division, from a state with NVCZ written. -/
theorem divideByZero : Obligations.DivideByZero := by
  intro s t v model zero u h
  have held : heldDividend s = s.withNVCZ true true false false := rfl
  rw [locked_eq, ← held] at h
  rw [branched_eq]
  refine exec_of_run (wellFormed_mulDiv model rfl) (divide_ok.2 ?_)
  rw [if_pos zero]
  exact exceptionEntry_of_vector u h

/-! Which factor is taken. -/

/-- The tables of R650 and R659: the mask as a number is above a level exactly where its flags say so. -/
theorem pendingFactor_eq (s : State) : pendingFactor s = factorTaken s := by
  have below : (decide (s.level < 3) = decide ¬(s.flag .i1 = true ∧ s.flag .i0 = true)) ∧
      decide (s.level < 2) = decide (s.flag .i1 = false) ∧
      decide (s.level < 1) = decide (s.flag .i1 = false ∧ s.flag .i0 = false) := by
    unfold State.level
    cases s.flag .i1 <;> cases s.flag .i0 <;> decide
  obtain ⟨h3, h2, h1⟩ := below
  unfold pendingFactor factorTaken
  rw [h3, h2, h1]
  simp only [Bool.and_eq_true, decide_eq_true_eq]
  cases s.intHoldoff <;> cases s.pins.imaskLow <;> simp

/-! Sampling. -/

/-- Sampling with an entry of the schedule (R736). -/
theorem samplePins_cons {s : State} {p : Pins} {rest : List Pins} (h : s.schedule = p :: rest) :
    samplePins s = ((s.setPins p).setSchedule rest).setBus p.cycles := by
  rw [samplePins, h]

/-- Sampling behind the end of the schedule: the levels stay, nothing new comes (log 22). -/
theorem samplePins_nil {s : State} (h : s.schedule = []) :
    samplePins s = (s.setPins { s.pins with nmiEdge := false, master := [], cycles := [] }).setBus [] := by
  rw [samplePins, h]

/-- The latch is set by an edge and never cleared by sampling (D23). -/
theorem latchNmi_eq (s : State) : latchNmi s = s.setNmiPending (s.nmiPending || s.pins.nmiEdge) := by
  unfold latchNmi
  cases h : s.pins.nmiEdge <;> simp [State.setNmiPending]

theorem setSchedule_self {s : State} {l : List Pins} (h : s.schedule = l) : s.setSchedule l = s := by
  rw [← h]
  rfl

/-- Sampling changes the inputs and the latch of NMI only. -/
theorem latchInputs_only (s : State) :
    ∃ p l b n, latchInputs s = (((s.setPins p).setSchedule l).setBus b).setNmiPending n := by
  rw [latchInputs, latchNmi_eq]
  cases h : s.schedule with
  | nil =>
    rw [samplePins_nil h]
    refine ⟨{ s.pins with nmiEdge := false, master := [], cycles := [] }, [], [], s.nmiPending || false, ?_⟩
    exact congrArg (fun t : State => ((t.setPins _).setBus []).setNmiPending _) (setSchedule_self h).symm
  | cons p rest => exact ⟨p, rest, p.cycles, _, by rw [samplePins_cons h]⟩

theorem latchInputs_status (s : State) : (latchInputs s).status = s.status := by
  obtain ⟨p, l, b, n, e⟩ := latchInputs_only s
  simp [e]

theorem latchInputs_zdivPending (s : State) : (latchInputs s).zdivPending = s.zdivPending := by
  obtain ⟨p, l, b, n, e⟩ := latchInputs_only s
  simp [e]

theorem latchInputs_intHoldoff (s : State) : (latchInputs s).intHoldoff = s.intHoldoff := by
  obtain ⟨p, l, b, n, e⟩ := latchInputs_only s
  simp [e]

theorem latchInputs_sc (s : State) : (latchInputs s).sc = s.sc := by
  obtain ⟨p, l, b, n, e⟩ := latchInputs_only s
  simp [e]

theorem latchInputs_mem (s : State) : (latchInputs s).mem = s.mem := by
  obtain ⟨p, l, b, n, e⟩ := latchInputs_only s
  simp [e]

theorem latchInputs_cons {s : State} {p : Pins} {rest : List Pins} (h : s.schedule = p :: rest) :
    (latchInputs s).nmiPending = (s.nmiPending || p.nmiEdge) ∧ (latchInputs s).pins = p ∧
      (latchInputs s).schedule = rest ∧ (latchInputs s).bus = p.cycles := by
  rw [latchInputs, latchNmi_eq, samplePins_cons h]
  exact ⟨rfl, rfl, rfl, rfl⟩

theorem latchInputs_nil {s : State} (h : s.schedule = []) :
    (latchInputs s).nmiPending = s.nmiPending ∧ (latchInputs s).bus = [] ∧
      (latchInputs s).pins = { s.pins with nmiEdge := false, master := [], cycles := [] } := by
  rw [latchInputs, latchNmi_eq, samplePins_nil h]
  exact ⟨Bool.or_false _, rfl, rfl⟩

/-! The latch of NMI. -/

theorem resetAssert_status (s : State) : (resetAssert s).status = .reset := by
  obtain ⟨-, -, -, -, -, -, hs⟩ := resetAssert_frame s
  exact hs

/-- Where the outcome is a next state, and no reset, the latch of NMI is `v` in it. -/
def Latches (v : Bool) (o : Host.Outcome State Fault Refusal) : Prop :=
  ∀ t, o = .next t → t.status ≠ .reset → t.nmiPending = v

theorem latches_next {v : Bool} {t : State} (h : t.nmiPending = v) : Latches v (.next t) := by
  rintro _ ⟨⟩ _
  exact h

/-- A reset clears the latch, and is excluded. -/
theorem latches_resetAssert (v : Bool) (s : State) : Latches v (.next (resetAssert s)) := by
  rintro _ ⟨⟩ n
  exact absurd (resetAssert_status s) n

theorem latches_conclude {v : Bool} {r : Result State} (h : ∀ t, r = .ok t → t.nmiPending = v) :
    Latches v (conclude r) := by
  intro t e n
  rcases conclude_next.1 e with e | ⟨u, -, rfl⟩
  · exact h t e
  · exact latches_resetAssert v u _ rfl n

/-- An instruction leaves the latch. -/
theorem runInstruction_latches (s : State) : Latches s.nmiPending (runInstruction exec s) := by
  intro t e n
  rcases runInstruction_next.1 e with ⟨u, -, rfl⟩ | ⟨i, w, u, hw, hu, ht⟩
  · exact latches_resetAssert _ u _ rfl n
  · have before : (advance i w).nmiPending = s.nmiPending := (fetchInstr_access hw).keeps.nmi
    obtain ⟨-, hu | ⟨x, -, rfl⟩⟩ := exec_next.1 hu
    · have after := (Form.run_keeps hu).nmi.trans before
      rcases finish_ok.1 ht with ⟨-, rfl⟩ | ⟨-, -, rfl⟩
      · exact after
      · split <;> exact after
    · rcases finish_ok.1 ht with ⟨-, rfl⟩ | ⟨m, -⟩
      · exact latches_resetAssert _ x _ rfl n
      · exact absurd (resetAssert_status x) m

/-- An entry clears the latch of its own factor only. -/
theorem accept_latches (f : Factor) (s : State) : Latches (clearLatch f s).nmiPending (accept f s) :=
  latches_conclude fun _ h => (exceptionEntry_keeps h).1.nmi

/-- At a boundary the latch is cleared by taking NMI and by nothing else. -/
theorem boundary_latches {s : State} {v : Bool} (taken : takes s .nmi → v = false)
    (kept : ¬takes s .nmi → v = s.nmiPending) : Latches v (boundary exec s) := by
  unfold boundary
  split
  · exact latches_resetAssert v s
  rename_i sr
  have waits (h : s.status ≠ .run ∧ s.status ≠ .halt ∧ s.status ≠ .sleep) : s.nmiPending = v :=
    (kept fun ⟨_, k, _⟩ => by rcases k with k | k | k <;> simp [k] at h).symm
  have passes (h : pendingFactor s = none) : s.nmiPending = v := (kept fun ⟨_, _, k⟩ => by simp [h] at k).symm
  have clears (h : s.status = .run ∨ s.status = .halt ∨ s.status = .sleep) {f : Factor}
      (hf : pendingFactor s = some f) : (clearLatch f s).nmiPending = v := by
    by_cases e : f = .nmi
    · subst e
      exact (taken ⟨by simpa using sr, h, hf⟩).symm
    · rw [kept fun ⟨_, _, k⟩ => e (Option.some.inj (hf.symm.trans k))]
      cases f with
      | nmi => exact absurd rfl e
      | _ => rfl
  cases st : s.status with
  | reset => exact latches_conclude fun t h => (resetRelease_keeps h).1.nmi.trans (waits (by simp [st]))
  | exception => exact latches_next (waits (by simp [st]))
  | busReleased fromHalt =>
    dsimp only
    split
    · exact latches_next ((busMaster_keeps s).nmi.trans (waits (by simp [st])))
    · exact latches_next (waits (by simp [st]))
  | run =>
    cases hf : pendingFactor s with
    | some f => exact clears (.inl st) hf ▸ accept_latches f s
    | none =>
      dsimp only
      split
      · exact latches_next ((busMaster_keeps s).nmi.trans (passes hf))
      · exact passes hf ▸ runInstruction_latches (idlePoint s)
  | halt =>
    cases hf : pendingFactor s with
    | some f => exact clears (.inr (.inl st)) hf ▸ accept_latches f s
    | none =>
      dsimp only
      split
      · exact latches_next ((busMaster_keeps s).nmi.trans (passes hf))
      · exact latches_next (passes hf)
  | sleep =>
    cases hf : pendingFactor s with
    | some f =>
      have same : (clearLatch f (sealBus s)).nmiPending = (clearLatch f s).nmiPending := by cases f <;> rfl
      exact (same.trans (clears (.inr (.inr st)) hf)) ▸ accept_latches f (sealBus s)
    | none => exact latches_next (passes hf)

/-- Settles O52: the factor by its table (`pendingFactor_eq`), the sample taken (`latchInputs_cons`, `latchInputs_nil`), and the latch through a step (`boundary_latches`). -/
theorem factorPriority : Obligations.FactorPriority := by
  refine ⟨pendingFactor_eq, fun s p rest h => latchInputs_cons h, fun s h => latchInputs_nil h, fun s t h n => ?_⟩
  exact ⟨fun k => boundary_latches (fun _ => rfl) (absurd k) t h n,
    fun k => boundary_latches (absurd · k) (fun _ => rfl) t h n⟩

/-! Taking a factor. -/

/-- A step that takes a factor enters it, from SLEEP with the bus closed (D6). -/
theorem step_takes {s : State} {f : Factor} (h : takes (latchInputs s) f) :
    step s = conclude (exceptionEntry f
      (clearLatch f (if (latchInputs s).status = .sleep then sealBus (latchInputs s) else latchInputs s))) := by
  obtain ⟨sr, st, hf⟩ := h
  unfold step boundary
  rcases st with st | st | st <;> simp [sr, st, hf, accept]

/-- Where the entry of a factor stands behind its frame and the mask, as the rules say it. -/
theorem behindFrame_eq (f : Factor) (s : State) :
    maskedFor (pushed (exceptionFrame s) (entering (unlatched s f))) f =
      behindFrame f (clearLatch f (if s.status = .sleep then sealBus s else s)) := by
  have frame (u : State) : exceptionFrame (clearLatch f u) = exceptionFrame u := by cases f <;> rfl
  have status : (clearLatch f s).status = s.status := by cases f <;> rfl
  have commute : sealed (clearLatch f s) = clearLatch f (sealBus s) := by cases f <;> rfl
  rw [behindFrame, maskedFor_eq, unlatched_eq, entering, closed, locked_eq, locked_eq, status, frame]
  split
  · rw [commute]
    rfl
  · rfl

/-- Settles O53: a step that takes a factor is its entry (`step_takes`), which reads the vector behind the frame. -/
theorem exceptionTaken : Obligations.ExceptionTaken := by
  have vector (f : Factor) (s : State) :
      vectorOf s f = f.vector (clearLatch f (if s.status = .sleep then sealBus s else s)) := by
    rw [vectorOf_eq]
    split <;> cases f <;> rfl
  refine ⟨fun s t f v h u hv => ?_, fun s f g h q hg => ?_⟩
  · have uncut : (clearLatch f (if (latchInputs s).status = .sleep then sealBus (latchInputs s)
        else latchInputs s)).uncut := by
      have sealedUncut : (sealBus (latchInputs s)).uncut := (sealBus_access _).uncut u
      split <;> cases f <;> assumption
    rw [behindFrame_eq, vector] at hv
    rw [step_takes h, exceptionEntry_of_vector uncut hv, branched_eq, conclude]
  · have quiet : (clearLatch f (if (latchInputs s).status = .sleep then sealBus (latchInputs s)
        else latchInputs s)).bus = [] := by
      rw [sealBus_quiet q, ite_self]
      cases f <;> exact q
    rw [behindFrame_eq, vector] at hg
    rw [step_takes h, exceptionEntry_of_fault (uncut_quiet quiet) hg, behindFrame_eq]
    exact ⟨rfl, readByte_fault_quiet (behindFrame_bus_quiet quiet f) hg⟩

/-! The hold-off. -/

/-- No op-code of the default set is that of another instruction: each stands in one cell of the maps (`encode_spells`). -/
theorem opcodeOf_mem_default {i : Instr} :
    opcodeOf i ∈ Config.defaultHoldoffSet ↔ ∃ n, i ∈ holdoffInstrs n := by
  constructor
  · intro m
    obtain ⟨l, -, spells⟩ := encode_spells i
    simp only [Config.defaultHoldoffSet, List.mem_cons, List.not_mem_nil, or_false] at m
    rcases m with m | m | m | m | m | m | m | m | m <;> rw [m] at spells <;> cases spells <;>
      simp [holdoffInstrs, wholeScWriters]
  · rintro ⟨n, m⟩
    have codes : (holdoffInstrs n).map opcodeOf ⊆ Config.defaultHoldoffSet := by
      rw [show (holdoffInstrs n).map opcodeOf = (holdoffInstrs 0#8).map opcodeOf from rfl]
      decide
    exact codes (List.mem_map_of_mem m)

/-- An instruction that is not cut leaves the hold-off. -/
theorem exec_intHoldoff {i : Instr} {s t : State} (h : exec i s = .next t) (n : t.status ≠ .reset) :
    t.intHoldoff = s.intHoldoff := by
  obtain ⟨-, h | ⟨u, -, rfl⟩⟩ := exec_next.1 h
  · exact (Form.run_keeps h).holdoff
  · exact absurd (resetAssert_status u) n

theorem begun_cfg (s : State) (i : Instr) : (begun s i).cfg = s.cfg := by simp [begun, passed]

theorem begun_intHoldoff (s : State) (i : Instr) : (begun s i).intHoldoff = false := by simp [begun, passed]

/-- A step that runs an instruction and ends in no reset: the instruction answers, and its end sets the hold-off by its op-code. -/
theorem step_runs_next {s t u : State} {i : Instr} (r : runs (latchInputs s)) (f : fetches (latchInputs s) i u)
    (h : step s = .next t) (n : t.status ≠ .reset) :
    ∃ w, exec i (begun u i) = .next w ∧ w.status ≠ .reset ∧
      t = if opcodeOf i ∈ s.cfg.holdoffSet then w.setIntHoldoff true else w := by
  cases e : exec i (begun u i) with
  | fault x => rw [step_of_fault r f e] at h; cases h
  | refused x => exact absurd e exec_refused
  | next w =>
    have cfg : (begun u i).cfg = s.cfg := by rw [begun_cfg, (bytesAt_access f).cfg, latchInputs_cfg]
    rw [step_of_next r f e] at h
    rcases conclude_next.1 h with h | ⟨x, -, rfl⟩
    · rcases finish_ok.1 h with ⟨hw, rfl⟩ | ⟨hw, -, ht⟩
      · exact absurd hw n
      · exact ⟨w, rfl, hw, cfg ▸ ht⟩
    · exact absurd (resetAssert_status x) n

/-- Settles O54: the hold-off is used up before the instruction, which leaves it, and set behind it (`step_runs_next`). -/
theorem holdOffOneInstruction : Obligations.HoldOffOneInstruction := by
  refine ⟨fun s t u i r f h n => ?_, fun t h z => ?_, fun i => opcodeOf_mem_default⟩
  · obtain ⟨w, hw, hs, rfl⟩ := step_runs_next r f h n
    have clear : w.intHoldoff = false := (exec_intHoldoff hw hs).trans (begun_intHoldoff u i)
    split <;> simp_all
  · rw [pendingFactor_eq, factorTaken, latchInputs_zdivPending, latchInputs_intHoldoff, h, z]
    simp

end Sys2Proof.Machine
end

section
/-! RET and RETE behind a call and behind an exception (R616, R665, R668): the frame is read back from RAM, and nothing else has to be restored. -/

namespace Sys2Proof.Machine

open Rules

/-! Where a frame stands. -/

/-- `t` stands behind the push of `l` in `s`, with nothing coming from the outside: SP and memory are those behind the push, whatever the registers are. -/
structure Behind (l : List Byte) (s t : State) : Prop where
  quiet : t.bus = []
  cfg : t.cfg = s.cfg
  sp : t.sp = (pushed l s).sp
  bytes : ∀ a, t.byteAt a = (pushed l s).byteAt a

theorem behind_pushed {s : State} (q : s.bus = []) (l : List Byte) : Behind l s (pushed l s) :=
  ⟨pushed_bus_quiet q l, pushed_cfg (uncut_quiet q) l, rfl, fun _ => rfl⟩

/-- Registers other than SP may be written there. -/
theorem Behind.registers {l : List Byte} {s t u : State} (h : Behind l s t) (bus : u.bus = t.bus := by simp)
    (cfg : u.cfg = t.cfg := by simp) (sp : u.sp = t.sp := by simp) (mem : u.mem = t.mem := by simp) :
    Behind l s u :=
  ⟨bus.trans h.quiet, cfg.trans h.cfg, sp.trans h.sp, fun a => by
    rw [State.byteAt, mem]
    exact h.bytes a⟩

/-- A read with which nothing comes takes its place in the trace, and does nothing else. -/
theorem readByte_quiet_eq {s t : State} {a : Addr} {v : Byte} (q : s.bus = []) (h : readByte s a = .ok (v, t)) :
    t = s.record (.read a v) := by
  obtain ⟨u, d, hu, -, rfl⟩ := readByte_ok.1 h
  rw [busCycle_cycled hu, cycled_quiet q]

/-- Words may be read there. -/
theorem Behind.readWord {l : List Byte} {s t u : State} {page : Byte} {a v : Word} (h : Behind l s t)
    (r : readWord t page a = .ok (v, u)) : Behind l s u := by
  obtain ⟨lo, hi, w, hw, hu, -⟩ := readWord_ok.1 r
  obtain rfl := readByte_quiet_eq h.quiet hw
  obtain rfl := readByte_quiet_eq (s := t.record _) h.quiet hu
  exact h.registers

theorem OffStack.put {g : State → State} (o : OffStack g) (s : State) (a : Addr) (v : Byte) :
    (g s).put a v = g (s.put a v) := by
  have cycled : (g s).cycled = g s.cycled := by
    unfold State.cycled
    rw [o.bus]
    cases s.bus with
    | nil => rfl
    | cons c rest =>
      dsimp only
      rw [o.setBus, o.masterAccesses]
  rw [State.put, cycled, o.hold, o.record, State.put]

/-- Registers other than SP may be written before a push or behind it. -/
theorem OffStack.pushed {g : State → State} (o : OffStack g) (l : List Byte) (s : State) :
    Machine.pushed l (g s) = g (Machine.pushed l s) := by
  induction l generalizing s with
  | nil => rfl
  | cons v l ih => rw [Machine.pushed, o.sp, o.stackAddr, o.setSp, o.put, ih, Machine.pushed]

/-! Reading a frame back. -/

/-- Bytes of the stack that no device gives are read from any state with the same memory and SP. -/
theorem stackHolds_congr {l : List Byte} {s t u : State} (qs : s.bus = []) (qt : t.bus = []) (c : t.cfg = s.cfg)
    (p : t.sp = s.sp) (m : ∀ a, t.byteAt a = s.byteAt a)
    (k : ∀ i < l.length, s.kindAt (stackAddr s (s.sp + BitVec.ofNat 16 i)) ≠ .io) (h : stackHolds s l u) :
    ∃ w, stackHolds t l w ∧ Access (t.setSp u.sp) w [] ∧ w.bus = [] := by
  induction l generalizing s t with
  | nil =>
    obtain rfl : u = s := h
    refine ⟨t, rfl, ?_, qt⟩
    rw [← p]
    exact Access.refl t
  | cons v l ih =>
    obtain ⟨x, hx, hu⟩ := h
    have here : s.kindAt (stackAddr s s.sp) ≠ .io := by simpa using k 0 (Nat.succ_pos _)
    obtain ⟨y, hy⟩ := (readByte_quiet qt (stackAddr s s.sp) v).2
      ((found_congr c (m _) here none).trans ((readByte_quiet qs _ v).1 ⟨x, hx⟩))
    obtain rfl := readByte_quiet_eq qs hx
    obtain rfl := readByte_quiet_eq qt hy
    obtain ⟨w, hw, back, qw⟩ := ih (s := (s.record (.read (stackAddr s s.sp) v)).setSp (s.sp + 1#16))
      (t := (t.record (.read (stackAddr s s.sp) v)).setSp (t.sp + 1#16)) qs qt c (by simp [p]) m
      (fun i hi => by
        have e : s.sp + 1#16 + BitVec.ofNat 16 i = s.sp + BitVec.ofNat 16 (i + 1) := by bv_omega
        have next := k (i + 1) (Nat.succ_lt_succ hi)
        rw [← e] at next
        exact next) hu
    refine ⟨w, ⟨_, ?_, hw⟩, ?_, qw⟩
    · rw [p, stackAddr, c, dataAddr_cfg c]
      exact hy
    · exact ((record_access t _).setSp u.sp).trans back

/-- A frame pushed into RAM is read back; behind this SP is as before. -/
theorem Behind.readBack {l : List Byte} {s t : State} (h : Behind l s t) (q : s.bus = [])
    (ram : inRam s (belowSp s l.length)) (n : l.length ≤ 65536) :
    ∃ u, stackHolds t l.reverse u ∧ Access (t.setSp s.sp) u [] ∧ u.bus = [] := by
  obtain ⟨u, holds, back, -⟩ := pushed_readBack q ram n
  have cfg := pushed_cfg (uncut_quiet q) l
  have raised := stackHolds_sp holds
  rw [back.sp, List.length_reverse] at raised
  rw [← back.sp]
  refine stackHolds_congr (pushed_bus_quiet q l) h.quiet (h.cfg.trans cfg.symm) h.sp h.bytes (fun i hi => ?_) holds
  rw [List.length_reverse] at hi
  have below : stackAddr s ((pushed l s).sp + BitVec.ofNat 16 i) ∈ belowSp s l.length :=
    mem_belowSp.2 ⟨l.length - 1 - i, by omega, congrArg _ (by bv_omega)⟩
  have kind := ram _ below
  rw [stackAddr, cfg, dataAddr_cfg cfg, State.kindAt, cfg]
  exact fun e => nomatch kind.symm.trans e

/-! What a return restores. -/

/-- `u` with PC as in `s`, where the frame was pushed, and in the maximum mode with CB and NB as CB was there (R597). -/
def returnedTo (s u : State) : State :=
  if s.cfg.maxMode then ((u.setPc s.pc).setCb s.cb).setNb s.cb else u.setPc s.pc

theorem returnedTo_minimum {s : State} (m : s.cfg.maxMode = false) (u : State) : returnedTo s u = u.setPc s.pc := by
  rw [returnedTo, if_neg (by simp [m])]

theorem returnedTo_maximum {s : State} (m : s.cfg.maxMode = true) (u : State) :
    returnedTo s u = ((u.setPc s.pc).setCb s.cb).setNb s.cb := by
  rw [returnedTo, if_pos m]

@[simp] theorem returnedTo_pc (s u : State) : (returnedTo s u).pc = s.pc := by unfold returnedTo; split <;> rfl
@[simp] theorem returnedTo_sp (s u : State) : (returnedTo s u).sp = u.sp := by unfold returnedTo; split <;> rfl
@[simp] theorem returnedTo_sc (s u : State) : (returnedTo s u).sc = u.sc := by unfold returnedTo; split <;> rfl
@[simp] theorem returnedTo_bus (s u : State) : (returnedTo s u).bus = u.bus := by unfold returnedTo; split <;> rfl

/-- The banks behind a return. -/
theorem returnedTo_banks (s u : State) :
    (s.cfg.maxMode = true → (returnedTo s u).cb = s.cb ∧ (returnedTo s u).nb = s.cb) ∧
      (s.cfg.maxMode = false → (returnedTo s u).cb = u.cb ∧ (returnedTo s u).nb = u.nb) :=
  ⟨fun m => by rw [returnedTo_maximum m]; exact ⟨rfl, rfl⟩, fun m => by rw [returnedTo_minimum m]; exact ⟨rfl, rfl⟩⟩

/-- A return from the frame of a call. -/
theorem retPop_callFrame {s t u : State} (c : t.cfg = s.cfg) (h : stackHolds t (callFrame s).reverse u) :
    retPop t = .ok (returnedTo s u) := by
  unfold callFrame at h
  cases m : s.cfg.maxMode with
  | false =>
    rw [if_neg (by simp [m])] at h
    rw [retPop_minimum (c ▸ m) h, pair_hi_lo, returnedTo_minimum m]
  | true =>
    rw [if_pos m] at h
    rw [retPop_maximum (c ▸ m) h, pair_hi_lo, returnedTo_maximum m]

/-- A return from the frame of an exception. -/
theorem exceptionReturn_exceptionFrame {s t u : State} (c : t.cfg = s.cfg)
    (h : stackHolds t (exceptionFrame s).reverse u) : exceptionReturn t = .ok (returnedTo s (u.setSc s.sc)) := by
  rw [exceptionFrame, List.reverse_append] at h
  obtain ⟨w, hw, hu⟩ := stackHolds_append.1 h
  exact exceptionReturn_stackHolds hw
    (retPop_callFrame (t := w.setSc s.sc) ((stackHolds_cfg hw).trans c) ((setSc_offStack s.sc).stackHolds hu))

/-- Where nothing comes from the outside, a frame may leave out the fields and flags that have their values again. -/
theorem Within.restored {b : Bool} {x x' : List Field} {y y' : List Flag} {z : List Addr} {s t : State}
    (h : Within ⟨b, x, y, z⟩ s t) (q : s.bus = []) (qt : t.bus = []) (trace : Field.trace ∈ x')
    (hf : ∀ f ∈ x, f ∉ x' → f.same s t) (hg : ∀ g ∈ y, g ∉ y' → t.flag g = s.flag g) : Framed s t x' y' z := by
  obtain ⟨kf, kg, ka⟩ := kept_iff.1 h.kept
  refine ⟨fun f n => ?_, fun g n => ?_, fun a n => ka a n fun _ => by simp [masterBytes_quiet q]⟩
  · by_cases e : f ∈ x
    · exact hf f e n
    by_cases bus : f = .bus
    · exact bus ▸ qt.trans q.symm
    · exact kf f e fun _ => ⟨bus, fun e => n (e ▸ trace)⟩
  · by_cases e : g ∈ y
    · exact hg g e n
    · exact kg g e

theorem callFrame_length_le (s : State) : (callFrame s).length ≤ 3 := by
  unfold callFrame
  split <;> simp

/-! Call, then return. -/

/-- RET and RETS behind the frame of a call. -/
theorem return_behind {s t : State} (q : s.bus = []) (h : Behind (callFrame s) s t)
    (w : Within ⟨true, [.pc, .cb, .sp], [], belowSp s (callFrame s).length⟩ s t)
    (ram : inRam s (belowSp s (callFrame s).length)) :
    ∃ u, exec .ret t = .next u ∧ exec .rets t = .next (u.setPc (s.pc + 2#16)) ∧ u.pc = s.pc ∧ u.sp = s.sp ∧
      (s.cfg.maxMode = true → u.cb = s.cb ∧ u.nb = s.cb) ∧ (s.cfg.maxMode = false → u.cb = t.cb ∧ u.nb = t.nb) ∧
      Framed s u [.cb, .nb, .trace] [] (belowSp s (callFrame s).length) := by
  obtain ⟨u, holds, back, qu⟩ := h.readBack q ram (by have := callFrame_length_le s; omega)
  have run := retPop_callFrame h.cfg holds
  have sp : (returnedTo s u).sp = s.sp := (returnedTo_sp s u).trans back.sp
  have cb : u.cb = t.cb := back.same State.cb fun _ _ _ _ => rfl
  have nb : u.nb = t.nb := back.same State.nb fun _ _ _ _ => rfl
  obtain ⟨maximum, minimum⟩ := returnedTo_banks s u
  rw [cb, nb] at minimum
  have all : Within ⟨true, [.pc, .sp, .cb, .nb], [], belowSp s (callFrame s).length⟩ s (returnedTo s u) :=
    w.then {} (((retPop_runs t).within _ run).mono {})
  refine ⟨returnedTo s u, exec_of_run rfl run, ?_, returnedTo_pc s u, sp, maximum, minimum,
    all.restored q ((returnedTo_bus s u).trans qu) (by simp) ?_ (by simp)⟩
  · exact exec_of_run rfl (returnSkip_ok.2 ⟨_, run, by rw [returnedTo_pc]⟩)
  · simpa [Field.same] using sp

/-- Settles O56: behind each call stands its frame, and in memory nothing else has changed (`return_behind`). -/
theorem callThenReturn : Obligations.CallThenReturn := by
  intro n w s t q h ram
  have u := uncut_quiet q
  have frame := behind_pushed q (callFrame s)
  rcases h with ⟨row, m, hc, h⟩ | h
  · have run : call row.cond row.offset s = .ok t := by
      rw [← List.map_inj_left.1 (run_callRows n w s) row m]
      exact run_of_exec u h
    rw [← cond_holds_eq] at hc
    obtain ⟨x, hx, rfl⟩ : ∃ x, callPush s = .ok x ∧ t = branch (relTarget s row.offset) x := by
      simpa only [call_ok, hc, if_true] using run
    obtain rfl := Except.ok.inj ((callPush_uncut u).symm.trans hx)
    exact return_behind q frame.registers
      (((callPush_pushes s).runs.within _ hx).then {} ((branch_within _ _).mono {})) ram
  · have run : callIndirect w s = .ok t := run_of_exec u h
    have within := ((formOf (.callMAbs w)).run_runs s).within t run
    obtain ⟨x, hx, v, y, hy, rfl⟩ := callIndirect_ok.1 run
    obtain rfl := Except.ok.inj ((callPush_uncut u).symm.trans hx)
    exact return_behind q (frame.readWord hy).registers within ram

/-! Exception, then return. -/

theorem setStatus_offStack (v : Status) : OffStack (·.setStatus v) := by constructor <;> intros <;> rfl

theorem acknowledge_offStack : OffStack acknowledge := by constructor <;> intros <;> rfl

/-- RETE behind the frame of an exception. -/
theorem returnException_behind {s t : State} (q : s.bus = []) (h : Behind (exceptionFrame s) s t)
    (w : Within ⟨true, [.pc, .cb, .sp, .status, .iackLow], [.i1, .i0], belowSp s (exceptionFrame s).length⟩ s t)
    (ram : inRam s (belowSp s (exceptionFrame s).length)) :
    ∃ u, exec .rete t = .next u ∧ u.pc = s.pc ∧ u.sc = s.sc ∧ u.sp = s.sp ∧
      (s.cfg.maxMode = true → u.cb = s.cb ∧ u.nb = s.cb) ∧ (s.cfg.maxMode = false → u.cb = t.cb ∧ u.nb = t.nb) ∧
      Framed s u [.cb, .nb, .status, .iackLow, .trace] [] (belowSp s (exceptionFrame s).length) := by
  have length : (exceptionFrame s).length ≤ 4 := by
    rw [exceptionFrame, List.length_append]
    exact Nat.succ_le_succ (callFrame_length_le s)
  obtain ⟨u, holds, back, qu⟩ := h.readBack q ram (by omega)
  have run := exceptionReturn_exceptionFrame h.cfg holds
  have sp : (returnedTo s (u.setSc s.sc)).sp = s.sp := (returnedTo_sp s _).trans back.sp
  have sc : (returnedTo s (u.setSc s.sc)).sc = s.sc := returnedTo_sc s _
  have cb : u.cb = t.cb := back.same State.cb fun _ _ _ _ => rfl
  have nb : u.nb = t.nb := back.same State.nb fun _ _ _ _ => rfl
  obtain ⟨maximum, minimum⟩ := returnedTo_banks s (u.setSc s.sc)
  rw [State.setSc_cb, State.setSc_nb, cb, nb] at minimum
  have all : Within ⟨true, [.pc, .sp, .cb, .nb, .status, .iackLow], Flag.all,
      belowSp s (exceptionFrame s).length⟩ s (returnedTo s (u.setSc s.sc)) :=
    w.then { flags := by simp [Flag.all] } (((exceptionReturn_runs t).within _ run).mono {})
  refine ⟨returnedTo s (u.setSc s.sc), exec_of_run rfl run, returnedTo_pc s _, sc, sp, maximum, minimum,
    all.restored q ((returnedTo_bus s _).trans qu) (by simp) ?_ fun g _ _ => State.flag_congr sc g⟩
  simpa [Field.same] using sp

theorem mask_within (f : Factor) (s : State) : Within ⟨false, [], [.i1, .i0], []⟩ s (f.mask s) := by
  have both (x y : Bool) : Within ⟨false, [], [.i1, .i0], []⟩ s ((s.setFlag .i1 x).setFlag .i0 y) :=
    (setFlag_within s .i1 x).then {} ((setFlag_within _ .i0 y).mono {})
  cases f with
  | zeroDivision => exact .refl _ s
  | nmi | irq3 | irq2 | irq1 => exact both _ _

/-- Behind an entry, and behind INT, stands the frame; a mask, a vector read and a branch leave it there. -/
theorem exceptionEntry_behind {f : Factor} {s t : State} (q : s.bus = []) (h : exceptionEntry f s = .ok t) :
    Behind (exceptionFrame s) s t ∧
      Within ⟨true, [.pc, .cb, .sp, .status, .iackLow], [.i1, .i0], belowSp s (exceptionFrame s).length⟩ s t := by
  obtain ⟨u, v, w, hu, hw, rfl⟩ := exceptionEntry_ok.1 h
  have push := (pushFrame_pushes (acknowledge (lockBus s))).runs.within u hu
  obtain rfl := Except.ok.inj ((pushFrame_entry (uncut_quiet q)).symm.trans hu)
  rw [Frame.pushes, exceptionFrame_entry, belowSp_congr (s := s) (by simp) (by simp)] at push
  refine ⟨?_, (lockBus_within s).then {} ((acknowledge_within _).then {} (push.then {}
    ((mask_within f _).then {} ((readWord_runs _ _ _).within _ hw |>.then {}
      ((branch_within v w).then {} ((setStatus_within _ _).mono {}))))))⟩
  have frame : Behind (exceptionFrame s) s (pushed (exceptionFrame s) (acknowledge (lockBus s))) := by
    rw [lockBus_quiet q, acknowledge_offStack.pushed]
    exact (behind_pushed q _).registers
  rw [mask_sc] at hw
  exact (frame.registers (u := State.setSc _ _) |>.readWord hw).registers

/-- See `exceptionEntry_behind`. -/
theorem softInterrupt_behind {kk : Byte} {s t : State} (q : s.bus = []) (h : softInterrupt kk s = .ok t) :
    Behind (exceptionFrame s) s t := by
  obtain ⟨u, hu, v, w, hw, rfl⟩ := softInterrupt_ok.1 h
  obtain rfl := Except.ok.inj ((pushFrame_uncut (s := s.setStatus .exception) (uncut_quiet q)).symm.trans hu)
  have frame : Behind (exceptionFrame s) s (pushed (exceptionFrame s) (s.setStatus .exception)) := by
    rw [(setStatus_offStack .exception).pushed]
    exact (behind_pushed q _).registers
  exact (frame.readWord hw).registers

/-- Settles O55: behind both entries stands the frame, and in memory nothing else has changed (`returnException_behind`). -/
theorem returnUndoesEntry : Obligations.ReturnUndoesEntry := by
  rintro s t q (⟨f, h⟩ | ⟨kk, h⟩) ram
  · obtain ⟨frame, within⟩ := exceptionEntry_behind q h
    exact returnException_behind q frame within ram
  · have run : softInterrupt kk s = .ok t := run_of_exec (uncut_quiet q) h
    exact returnException_behind q (softInterrupt_behind q run) (((softInterrupt_runs kk s).within t run).mono {}) ram

end Sys2Proof.Machine
end

section
/-! Reset (R701 to R704), standby (R717, R718, R735) and the release of the bus (R716): what a boundary does but for its instruction, and what the outside does between two bus cycles of one. -/

namespace Sys2Proof.Machine

open Rules

/-! Bus cycles with something on the bus. -/

/-- A bus cycle that is not cut: the bus master's accesses have been made. -/
theorem busCycle_cons {s : State} {c : BusCycle} {rest : List BusCycle} (h : s.bus = c :: rest) (n : c.cut = false) :
    busCycle s = .ok (c.master.foldl masterAccess (s.setBus rest), c.data) :=
  busCycle_ok.2 (.inr ⟨c, rest, h, n, rfl, rfl⟩)

/-- One that is cut: so they have, and the access of the CPU is not. -/
theorem busCycle_cut {s : State} {c : BusCycle} {rest : List BusCycle} (h : s.bus = c :: rest) (n : c.cut = true) :
    busCycle s = .error (.reset (c.master.foldl masterAccess (s.setBus rest))) :=
  busCycle_reset.2 ⟨c, rest, h, n, rfl⟩

/-- A read of RAM behind its break-point. -/
theorem readByte_ram_of {s u : State} {d : Option Byte} {a : Addr} {v : Byte} (h : busCycle s = .ok (u, d))
    (k : s.kindAt a = .ram) (b : u.byteAt a = some v) : readByte s a = .ok (v, u.record (.read a v)) :=
  readByte_ok.2 ⟨u, d, h, (found_memory (.inl ((busCycle_access h).kindAt a ▸ k)) d).trans b, rfl⟩

/-! Reset. -/

/-- The registers behind a reset (R46, R701). -/
theorem resetAssert_registers (s : State) : (resetAssert s).sc = 0xC0#8 ∧ (resetAssert s).nmiPending = false ∧
    (resetAssert s).zdivPending = false ∧ (resetAssert s).intHoldoff = false := by
  unfold resetAssert
  split <;> exact ⟨rfl, rfl, rfl, rfl⟩

theorem resetAssert_expansion {s : State} (h : s.cfg.model = .model2 ∨ s.cfg.model = .model3) :
    (resetAssert s).nb = 0x01#8 ∧ (resetAssert s).ep = 0x00#8 ∧ (resetAssert s).xp = 0x00#8 ∧
      (resetAssert s).yp = 0x00#8 := by
  rw [resetAssert, if_pos ((hasExpansion_iff _).2 h)]
  exact ⟨rfl, rfl, rfl, rfl⟩

/-- With SR LOW a step is a reset, whatever the status (R701). -/
theorem step_srLow {s : State} (h : (latchInputs s).pins.srLow = true) :
    step s = .next (resetAssert (latchInputs s)) := by
  rw [step, boundary, if_pos h]

/-- A word write to RAM that is cut in its midst: the lower byte is stored, the upper one is not (D31). -/
theorem writeWord_cut {s : State} {page : Byte} {a v : Word} {c d : BusCycle} (bus : s.bus = [c, d])
    (hc : c.master = []) (nc : c.cut = false) (hd : d.master = []) (nd : d.cut = true)
    (k : s.kindAt (dataAddr s page a) = .ram) :
    ∃ u, writeWord s page a v = .error (.reset u) ∧
      ∀ b, u.byteAt b = if b = dataAddr s page a then some (loByte v) else s.byteAt b := by
  have first := busCycle_cons bus nc
  rw [hc, List.foldl_nil] at first
  have rest : (((s.setBus [d]).hold (dataAddr s page a) (loByte v)).record
      (.write (dataAddr s page a) (loByte v))).bus = [d] := by simp
  have second := busCycle_cut rest nd
  rw [hd, List.foldl_nil] at second
  refine ⟨_, bind_error.2 (.inr ⟨_, writeByte_ok.2 ⟨_, _, first, rfl⟩, writeByte_error.2 ⟨_, rfl, second⟩⟩),
    fun b => hold_byteAt (s.setBus [d]) _ b _ k⟩

/-- Settles O47: SR LOW at a boundary (`step_srLow`), the reset exception processing, and a cut between two bus cycles (`writeWord_cut`). -/
theorem resetSequence : Obligations.ResetSequence := by
  refine ⟨fun s h => ?_, fun s t v sr st h => ?_, fun s c rest a v bus cut => ?_, fun _ => rfl,
    fun s hhll c d bus hc nc hd nd k => ?_⟩
  · obtain ⟨mem, cfg, -, -, -, -, status⟩ := resetAssert_frame (latchInputs s)
    obtain ⟨sc, nmi, zdiv, holdoff⟩ := resetAssert_registers (latchInputs s)
    exact ⟨_, step_srLow h, status, sc, nmi, zdiv, holdoff, mem.trans (latchInputs_mem s),
      cfg.trans (latchInputs_cfg s), fun m => resetAssert_expansion ((latchInputs_cfg s).symm ▸ m)⟩
  · have release : resetRelease (latchInputs s) = .ok ((branch v t).setStatus .run) :=
      resetRelease_ok.2 ⟨v, t, readVector_ok.2 h, rfl⟩
    rw [step, boundary, if_neg (by simp [sr]), latchInputs_status, st, branched_eq]
    simp only [release, conclude]
  · have stop := busCycle_cut bus cut
    exact ⟨readByte_reset.2 stop, writeByte_error.2 ⟨_, rfl, stop⟩⟩
  · obtain ⟨u, hu, bytes⟩ := writeWord_cut (v := s.ba) bus hc nc hd nd k
    obtain ⟨mem, -, -, -, -, -, status⟩ := resetAssert_frame u
    obtain ⟨sc, -⟩ := resetAssert_registers u
    have byteAt (b : Addr) : (resetAssert u).byteAt b = u.byteAt b := by rw [State.byteAt, mem, State.byteAt]
    have run : (formOf (.ldMAbsBa hhll)).run s = .error (.reset u) := bind_error.2 (.inr ⟨_, rfl, hu⟩)
    refine ⟨resetAssert u, exec_next.2 ⟨rfl, .inr ⟨u, run, rfl⟩⟩, status, sc, ?_, fun b n => ?_⟩
    · rw [byteAt, bytes, if_pos rfl, State.ba, loByte_pair]
    · rw [byteAt, bytes, if_neg n]

/-! Standby. -/

/-- A stopped CPU that takes no factor and is not made to release the bus waits (R717, R718). -/
theorem step_waits {s : State} (sr : (latchInputs s).pins.srLow = false)
    (st : s.status = .sleep ∨ s.status = .halt ∧ (latchInputs s).pins.breqLow = false)
    (h : pendingFactor (latchInputs s) = none) : step s = .next (idlePoint (latchInputs s)) := by
  rw [step, boundary, if_neg (by simp [sr]), latchInputs_status]
  rcases st with st | ⟨st, breq⟩
  · simp only [st, h, wait]
  · simp [st, h, breq, wait]

theorem wakes_eq_false {s : State} : wakes s = false ↔ s.pins.srLow = false ∧ pendingFactor s = none := by
  rw [wakes, Bool.or_eq_false_iff, Option.isSome_eq_false_iff, Option.isNone_iff_eq_none]

/-- Inputs that are steady, behind the end of the schedule, are sampled as they are. -/
theorem latchInputs_steady {s : State} (h : s.schedule = []) (edge : s.pins.nmiEdge = false)
    (master : s.pins.master = []) (cycles : s.pins.cycles = []) (bus : s.bus = []) : latchInputs s = s := by
  have pins : { s.pins with nmiEdge := false, master := [], cycles := [] } = s.pins := by
    rw [← edge, ← master, ← cycles]
  rw [latchInputs, latchNmi_eq, samplePins_nil h, pins, State.setBus_pins, State.setPins_pins, edge, Bool.or_false,
    ← bus]
  rfl

/-- Behind the end of the schedule a second sample is the first one again (log 22). -/
theorem latchInputs_again {s : State} (h : s.schedule = []) :
    (idlePoint (latchInputs s)).schedule = [] ∧
      latchInputs (idlePoint (latchInputs s)) = idlePoint (latchInputs s) := by
  have schedule : (latchInputs s).schedule = [] := by
    rw [latchInputs, latchNmi_eq, samplePins_nil h]
    simpa using h
  obtain ⟨-, bus, pins⟩ := latchInputs_nil h
  refine ⟨schedule, latchInputs_steady (s := idlePoint (latchInputs s)) schedule ?_ ?_ ?_ bus⟩ <;>
    simp only [idlePoint, State.setIackLow_pins, State.setIntHoldoff_pins, pins]

/-- A run that has ended: the next sample wakes nothing, and behind it the run has still ended. -/
theorem ended_step {s : State} (h : ended s = true) :
    wakes (latchInputs s) = false ∧ ended (idlePoint (latchInputs s)) = true := by
  obtain ⟨stopped, never⟩ := Bool.and_eq_true_iff.1 h
  have status : (idlePoint (latchInputs s)).status = s.status := latchInputs_status s
  have again {l : List Pins} (e : (idlePoint (latchInputs s)).schedule = l)
      (n : neverWakes l (idlePoint (latchInputs s)) = true) : ended (idlePoint (latchInputs s)) = true := by
    rw [ended, status, e, n, Bool.and_true]
    exact stopped
  cases e : s.schedule with
  | nil =>
    obtain ⟨schedule, steady⟩ := latchInputs_again e
    rw [e, neverWakes, setSchedule_self e] at never
    obtain ⟨now, later⟩ := Bool.and_eq_true_iff.1 never
    refine ⟨by simpa using now, again schedule ?_⟩
    rw [neverWakes, setSchedule_self schedule, steady]
    exact Bool.and_eq_true_iff.2 ⟨later, later⟩
  | cons p rest =>
    obtain ⟨-, -, schedule, -⟩ := latchInputs_cons e
    rw [e, neverWakes, setSchedule_self e] at never
    obtain ⟨now, later⟩ := Bool.and_eq_true_iff.1 never
    exact ⟨by simpa using now, again schedule later⟩

/-- What a waiting step changes. -/
theorem idlePoint_latchInputs_framed (s : State) : Framed s (idlePoint (latchInputs s))
    [.pins, .schedule, .bus, .nmiPending, .intHoldoff, .iackLow] [] [] := by
  have sc : (idlePoint (latchInputs s)).sc = s.sc := latchInputs_sc s
  have mem : (idlePoint (latchInputs s)).mem = s.mem := latchInputs_mem s
  refine ⟨fun f n => ?_, fun g _ => State.flag_congr sc g, fun a _ => by rw [State.byteAt, mem, State.byteAt]⟩
  obtain ⟨p, l, b, m, e⟩ := latchInputs_only s
  rw [e]
  cases f with
  | pins | schedule | bus | nmiPending | intHoldoff | iackLow => simp at n
  | _ => simp [Field.same, idlePoint]

/-- A run that has ended stays where it is, whatever the budget. -/
theorem run_ended {s : State} (h : ended s = true) (n : Nat) :
    run n s = if s.status = .halt then (.halted, s) else (.sleeping, s) := by
  cases n <;> rw [run, if_pos h]

/-- Settles O59: the waiting step (`step_waits`), the run that has ended (`run_ended`, `ended_step`), and the one that faults. -/
theorem standbyWaits : Obligations.StandbyWaits := by
  refine ⟨fun s sr st h => step_waits sr st h, fun s h => ?_, fun s f n h e => ?_⟩
  · obtain ⟨wakes, again⟩ := ended_step h
    obtain ⟨sr, factor⟩ := wakes_eq_false.1 wakes
    have stopped : s.status = .halt ∨ s.status = .sleep := of_decide_eq_true (Bool.and_eq_true_iff.1 h).1
    refine ⟨stopped.imp (fun st => ⟨st, fun n => ?_⟩) fun st => ⟨st, fun n => ?_⟩, fun breq =>
      ⟨_, step_waits sr (stopped.symm.imp id fun st => ⟨st, breq⟩) factor, again, idlePoint_latchInputs_framed s⟩⟩
    · rw [run_ended h, if_pos st]
    · rw [run_ended h, if_neg (by simp [st])]
  · rw [run, if_neg (by simp [h]), e]

/-! Bus release. -/

/-- A step that takes no factor while BREQ is LOW hands the bus over (R716). -/
theorem step_releases {s : State} (sr : (latchInputs s).pins.srLow = false)
    (breq : (latchInputs s).pins.breqLow = true) (h : pendingFactor (latchInputs s) = none) :
    (s.status = .run → step s = releaseBus false (latchInputs s)) ∧
      (s.status = .halt → step s = releaseBus true (latchInputs s)) := by
  constructor <;> intro st <;> simp [step, boundary, sr, breq, h, latchInputs_status, st]

/-- A step of the released bus: the bus master's accesses, or back to the status it came from. -/
theorem step_released {s : State} {h : Bool} (sr : (latchInputs s).pins.srLow = false)
    (st : s.status = .busReleased h) :
    step s = if (latchInputs s).pins.breqLow then .next (busMaster (latchInputs s))
      else .next ((latchInputs s).setStatus (if h then .halt else .run)) := by
  simp [step, boundary, sr, latchInputs_status, st]

theorem masterAccess_other (s : State) (x : MasterAccess) {a : Addr} (n : a ∉ x.written) :
    (masterAccess s x).byteAt a = s.byteAt a := by
  cases x with
  | read b => rfl
  | write b v => exact hold_other s v (by simpa [MasterAccess.written] using n)

/-- A byte that the bus master does not write is as before, whatever else comes in the step. -/
theorem masterAccesses_other (l : List MasterAccess) (s : State) {a : Addr}
    (n : a ∉ l.flatMap MasterAccess.written) : (l.foldl masterAccess s).byteAt a = s.byteAt a := by
  induction l generalizing s with
  | nil => rfl
  | cons x l ih =>
    rw [List.flatMap_cons, List.mem_append, not_or] at n
    exact (ih _ n.2).trans (masterAccess_other s x n.1)

/-- The bus master changes the bytes it writes, and the trace. -/
theorem busMaster_framed (s : State) :
    Framed s (busMaster s) [.trace] [] (s.pins.master.flatMap MasterAccess.written) := by
  have access := masterAccesses_access s.pins.master s
  have bus := masterAccesses_bus s.pins.master s
  refine ⟨fun f n => ?_, fun g _ => access.same (State.flag · g) fun _ _ _ _ => rfl,
    fun a n => masterAccesses_other _ s n⟩
  cases f with
  | trace => simp at n
  | bus => exact bus
  | _ => exact access.same _ fun _ _ _ _ => rfl

/-- A read of RAM, while the bus master waits for the break-point behind it. -/
theorem readByte_before {s : State} {a : Addr} {v : Byte} {c : BusCycle} {rest : List BusCycle}
    (bus : s.bus = c :: rest) (hc : c.master = []) (nc : c.cut = false) (k : s.kindAt a = .ram)
    (b : s.byteAt a = some v) : readByte s a = .ok (v, (s.setBus rest).record (.read a v)) := by
  have cycle := busCycle_cons bus nc
  rw [hc, List.foldl_nil] at cycle
  exact readByte_ram_of cycle k b

/-- A break-point in which the bus master writes one byte. -/
theorem cycled_write {s : State} {a : Addr} {v : Byte} {d : BusCycle} {rest : List BusCycle}
    (bus : s.bus = d :: rest) (hd : d.master = [.write a v]) :
    s.cycled = ((s.setBus rest).hold a v).record (.masterWrite a v) := by
  simp only [State.cycled, bus, hd, List.foldl_cons, List.foldl_nil, masterAccess]

/-- Of a word in RAM that the bus master writes between the two bus cycles of its read, the lower byte is as before (D4). -/
theorem readWord_torn {s : State} {page : Byte} {a : Word} {lo new : Byte} {c d : BusCycle} (bus : s.bus = [c, d])
    (hc : c.master = []) (nc : c.cut = false) (hd : d.master = [.write (dataAddr s page (a + 1#16)) new])
    (nd : d.cut = false) (klo : s.kindAt (dataAddr s page a) = .ram)
    (khi : s.kindAt (dataAddr s page (a + 1#16)) = .ram) (hlo : s.byteAt (dataAddr s page a) = some lo) :
    ∃ t, readWord s page a = .ok (pair new lo, t) := by
  have second := busCycle_cons (s := (s.setBus [d]).record (.read (dataAddr s page a) lo)) rfl nd
  rw [hd] at second
  exact ⟨_, readWord_ok.2 ⟨lo, new, _, readByte_before bus hc nc klo hlo, readByte_ram_of second khi
    ((hold_byteAt (State.setBus (State.record _ _) []) _ _ new khi).trans (if_pos rfl)), rfl⟩⟩

/-- Settles O60: the steps of the released bus, the bus master's accesses, and two instructions that they come between. -/
theorem busRelease : Obligations.BusRelease := by
  refine ⟨fun s sr breq => ⟨fun st h => (step_releases sr breq h).1 st, fun st h => (step_releases sr breq h).2 st,
    fun h st => by rw [step_released sr st, if_pos breq]⟩, fun s h sr breq st => ?_, busMaster_framed,
    fun s c rest bus n => busCycle_cons bus n, fun s hhll lo old new c d bus hc nc hd nd klo khi hlo _ => ?_,
    fun s old new c d bus hc nc hd nd k h => ?_⟩
  · rw [step_released sr st, if_neg (by simp [breq])]
  · obtain ⟨t, ht⟩ := readWord_torn bus hc nc hd nd klo khi hlo
    exact ⟨_, exec_of_run rfl (load16_ok.2 ⟨_, t, ht, rfl⟩), by simp [State.set16], by simp [State.set16]⟩
  · have uncut : s.uncut := by
      rw [State.uncut, bus]
      simp [nc, nd]
    have run := exchangeAHl_uncut uncut (readByte_before bus hc nc k h)
    have between := cycled_write (s := (s.setBus [d]).record (.read (MemOp.hl.ea s) old)) rfl hd
    rw [State.put, between] at run
    refine ⟨_, exec_of_run rfl run, by simp [State.set8], ?_, by simp [State.set8, State.record]⟩
    exact (hold_byteAt (State.record (State.hold _ _ _) _) _ _ _ (by simpa [State.kindAt] using k)).trans (if_pos rfl)

end Sys2Proof.Machine
end
